-- ==== Sys2Proof/Word.lean ====
section
/-! DEFINITION. The two word types of the machine (spec/00_scope.md section 5): `u8` and `u16`. -/

namespace Sys2Proof

/-- `u8`: data, registers, opcode and operand bytes. -/
abbrev Byte := BitVec 8

/-- `u16`: bus addresses and the program counter. -/
abbrev Word := BitVec 16

end Sys2Proof
end

