-- ==== Sys2Proof/Syntax.lean ====
section
/-! DEFINITION. The abstract syntax: one constructor per row of spec/opcode_table.json (R81, R106), and the
vocabulary of the table (mnemonics, the operand forms of the 13 addressing modes of R90 to R102).

Operands stand as the manual uses them: an immediate is a byte, a zero-page operand a byte, an absolute
operand a 16-bit word, a branch operand a signed displacement (R83). A stub opcode carries no operand:
R260 says that no operand byte of it is fetched. -/

namespace Sys2Proof

/-- Instructions. In the comments `*` is the page-cross penalty of R103, `+` the branch penalty of R197. -/
inductive Instr where
  -- Loads, stores, transfers and stack (40_load_store_transfer.md)
  /-- `LDA` (zero page,X), `$A1`, 6 cycles (R121). -/
  | ldaIzx (z : Byte)
  /-- `LDA` zero page, `$A5`, 3 cycles (R121). -/
  | ldaZp (z : Byte)
  /-- `LDA` immediate, `$A9`, 2 cycles (R121). -/
  | ldaImm (v : Byte)
  /-- `LDA` absolute, `$AD`, 4 cycles (R121). -/
  | ldaAbs (a : Word)
  /-- `LDA` (zero page),Y, `$B1`, 5 cycles* (R121). -/
  | ldaIzy (z : Byte)
  /-- `LDA` zero page,X, `$B5`, 4 cycles (R121). -/
  | ldaZpx (z : Byte)
  /-- `LDA` absolute,Y, `$B9`, 4 cycles* (R121). -/
  | ldaAby (a : Word)
  /-- `LDA` absolute,X, `$BD`, 4 cycles* (R121). -/
  | ldaAbx (a : Word)
  /-- `LDX` immediate, `$A2`, 2 cycles (R122). -/
  | ldxImm (v : Byte)
  /-- `LDX` zero page, `$A6`, 3 cycles (R122). -/
  | ldxZp (z : Byte)
  /-- `LDX` absolute, `$AE`, 4 cycles (R122). -/
  | ldxAbs (a : Word)
  /-- `LDX` zero page,Y, `$B6`, 4 cycles (R122). -/
  | ldxZpy (z : Byte)
  /-- `LDX` absolute,Y, `$BE`, 4 cycles* (R122). -/
  | ldxAby (a : Word)
  /-- `LDY` immediate, `$A0`, 2 cycles (R123). -/
  | ldyImm (v : Byte)
  /-- `LDY` zero page, `$A4`, 3 cycles (R123). -/
  | ldyZp (z : Byte)
  /-- `LDY` absolute, `$AC`, 4 cycles (R123). -/
  | ldyAbs (a : Word)
  /-- `LDY` zero page,X, `$B4`, 4 cycles (R123). -/
  | ldyZpx (z : Byte)
  /-- `LDY` absolute,X, `$BC`, 4 cycles* (R123). -/
  | ldyAbx (a : Word)
  /-- `STA` (zero page,X), `$81`, 6 cycles (R124). -/
  | staIzx (z : Byte)
  /-- `STA` zero page, `$85`, 3 cycles (R124). -/
  | staZp (z : Byte)
  /-- `STA` absolute, `$8D`, 4 cycles (R124). -/
  | staAbs (a : Word)
  /-- `STA` (zero page),Y, `$91`, 6 cycles (R124). -/
  | staIzy (z : Byte)
  /-- `STA` zero page,X, `$95`, 4 cycles (R124). -/
  | staZpx (z : Byte)
  /-- `STA` absolute,Y, `$99`, 5 cycles (R124). -/
  | staAby (a : Word)
  /-- `STA` absolute,X, `$9D`, 5 cycles (R124). -/
  | staAbx (a : Word)
  /-- `STX` zero page, `$86`, 3 cycles (R125). -/
  | stxZp (z : Byte)
  /-- `STX` absolute, `$8E`, 4 cycles (R125). -/
  | stxAbs (a : Word)
  /-- `STX` zero page,Y, `$96`, 4 cycles (R125). -/
  | stxZpy (z : Byte)
  /-- `STY` zero page, `$84`, 3 cycles (R126). -/
  | styZp (z : Byte)
  /-- `STY` absolute, `$8C`, 4 cycles (R126). -/
  | styAbs (a : Word)
  /-- `STY` zero page,X, `$94`, 4 cycles (R126). -/
  | styZpx (z : Byte)
  /-- `TAX` implied, `$AA`, 2 cycles (R131). -/
  | tax
  /-- `TAY` implied, `$A8`, 2 cycles (R132). -/
  | tay
  /-- `TXA` implied, `$8A`, 2 cycles (R133). -/
  | txa
  /-- `TYA` implied, `$98`, 2 cycles (R134). -/
  | tya
  /-- `TSX` implied, `$BA`, 2 cycles (R135). -/
  | tsx
  /-- `TXS` implied, `$9A`, 2 cycles (R137). -/
  | txs
  /-- `PHA` implied, `$48`, 3 cycles (R141). -/
  | pha
  /-- `PHP` implied, `$08`, 3 cycles (R142). -/
  | php
  /-- `PLA` implied, `$68`, 4 cycles (R143). -/
  | pla
  /-- `PLP` implied, `$28`, 4 cycles (R144). -/
  | plp
  -- Arithmetic, logic, compare, increment and shift (41_arithmetic_logic.md)
  /-- `ADC` (zero page,X), `$61`, 6 cycles (R151). -/
  | adcIzx (z : Byte)
  /-- `ADC` zero page, `$65`, 3 cycles (R151). -/
  | adcZp (z : Byte)
  /-- `ADC` immediate, `$69`, 2 cycles (R151). -/
  | adcImm (v : Byte)
  /-- `ADC` absolute, `$6D`, 4 cycles (R151). -/
  | adcAbs (a : Word)
  /-- `ADC` (zero page),Y, `$71`, 5 cycles* (R151). -/
  | adcIzy (z : Byte)
  /-- `ADC` zero page,X, `$75`, 4 cycles (R151). -/
  | adcZpx (z : Byte)
  /-- `ADC` absolute,Y, `$79`, 4 cycles* (R151). -/
  | adcAby (a : Word)
  /-- `ADC` absolute,X, `$7D`, 4 cycles* (R151). -/
  | adcAbx (a : Word)
  /-- `SBC` (zero page,X), `$E1`, 6 cycles (R152). -/
  | sbcIzx (z : Byte)
  /-- `SBC` zero page, `$E5`, 3 cycles (R152). -/
  | sbcZp (z : Byte)
  /-- `SBC` immediate, `$E9`, 2 cycles (R152). -/
  | sbcImm (v : Byte)
  /-- `SBC` absolute, `$ED`, 4 cycles (R152). -/
  | sbcAbs (a : Word)
  /-- `SBC` (zero page),Y, `$F1`, 5 cycles* (R152). -/
  | sbcIzy (z : Byte)
  /-- `SBC` zero page,X, `$F5`, 4 cycles (R152). -/
  | sbcZpx (z : Byte)
  /-- `SBC` absolute,Y, `$F9`, 4 cycles* (R152). -/
  | sbcAby (a : Word)
  /-- `SBC` absolute,X, `$FD`, 4 cycles* (R152). -/
  | sbcAbx (a : Word)
  /-- `AND` (zero page,X), `$21`, 6 cycles (R153). -/
  | andIzx (z : Byte)
  /-- `AND` zero page, `$25`, 3 cycles (R153). -/
  | andZp (z : Byte)
  /-- `AND` immediate, `$29`, 2 cycles (R153). -/
  | andImm (v : Byte)
  /-- `AND` absolute, `$2D`, 4 cycles (R153). -/
  | andAbs (a : Word)
  /-- `AND` (zero page),Y, `$31`, 5 cycles* (R153). -/
  | andIzy (z : Byte)
  /-- `AND` zero page,X, `$35`, 4 cycles (R153). -/
  | andZpx (z : Byte)
  /-- `AND` absolute,Y, `$39`, 4 cycles* (R153). -/
  | andAby (a : Word)
  /-- `AND` absolute,X, `$3D`, 4 cycles* (R153). -/
  | andAbx (a : Word)
  /-- `ORA` (zero page,X), `$01`, 6 cycles (R154). -/
  | oraIzx (z : Byte)
  /-- `ORA` zero page, `$05`, 3 cycles (R154). -/
  | oraZp (z : Byte)
  /-- `ORA` immediate, `$09`, 2 cycles (R154). -/
  | oraImm (v : Byte)
  /-- `ORA` absolute, `$0D`, 4 cycles (R154). -/
  | oraAbs (a : Word)
  /-- `ORA` (zero page),Y, `$11`, 5 cycles* (R154). -/
  | oraIzy (z : Byte)
  /-- `ORA` zero page,X, `$15`, 4 cycles (R154). -/
  | oraZpx (z : Byte)
  /-- `ORA` absolute,Y, `$19`, 4 cycles* (R154). -/
  | oraAby (a : Word)
  /-- `ORA` absolute,X, `$1D`, 4 cycles* (R154). -/
  | oraAbx (a : Word)
  /-- `EOR` (zero page,X), `$41`, 6 cycles (R155). -/
  | eorIzx (z : Byte)
  /-- `EOR` zero page, `$45`, 3 cycles (R155). -/
  | eorZp (z : Byte)
  /-- `EOR` immediate, `$49`, 2 cycles (R155). -/
  | eorImm (v : Byte)
  /-- `EOR` absolute, `$4D`, 4 cycles (R155). -/
  | eorAbs (a : Word)
  /-- `EOR` (zero page),Y, `$51`, 5 cycles* (R155). -/
  | eorIzy (z : Byte)
  /-- `EOR` zero page,X, `$55`, 4 cycles (R155). -/
  | eorZpx (z : Byte)
  /-- `EOR` absolute,Y, `$59`, 4 cycles* (R155). -/
  | eorAby (a : Word)
  /-- `EOR` absolute,X, `$5D`, 4 cycles* (R155). -/
  | eorAbx (a : Word)
  /-- `BIT` zero page, `$24`, 3 cycles (R159). -/
  | bitZp (z : Byte)
  /-- `BIT` absolute, `$2C`, 4 cycles (R159). -/
  | bitAbs (a : Word)
  /-- `CMP` (zero page,X), `$C1`, 6 cycles (R156). -/
  | cmpIzx (z : Byte)
  /-- `CMP` zero page, `$C5`, 3 cycles (R156). -/
  | cmpZp (z : Byte)
  /-- `CMP` immediate, `$C9`, 2 cycles (R156). -/
  | cmpImm (v : Byte)
  /-- `CMP` absolute, `$CD`, 4 cycles (R156). -/
  | cmpAbs (a : Word)
  /-- `CMP` (zero page),Y, `$D1`, 5 cycles* (R156). -/
  | cmpIzy (z : Byte)
  /-- `CMP` zero page,X, `$D5`, 4 cycles (R156). -/
  | cmpZpx (z : Byte)
  /-- `CMP` absolute,Y, `$D9`, 4 cycles* (R156). -/
  | cmpAby (a : Word)
  /-- `CMP` absolute,X, `$DD`, 4 cycles* (R156). -/
  | cmpAbx (a : Word)
  /-- `CPX` immediate, `$E0`, 2 cycles (R157). -/
  | cpxImm (v : Byte)
  /-- `CPX` zero page, `$E4`, 3 cycles (R157). -/
  | cpxZp (z : Byte)
  /-- `CPX` absolute, `$EC`, 4 cycles (R157). -/
  | cpxAbs (a : Word)
  /-- `CPY` immediate, `$C0`, 2 cycles (R158). -/
  | cpyImm (v : Byte)
  /-- `CPY` zero page, `$C4`, 3 cycles (R158). -/
  | cpyZp (z : Byte)
  /-- `CPY` absolute, `$CC`, 4 cycles (R158). -/
  | cpyAbs (a : Word)
  /-- `INC` zero page, `$E6`, 5 cycles (R160). -/
  | incZp (z : Byte)
  /-- `INC` absolute, `$EE`, 6 cycles (R160). -/
  | incAbs (a : Word)
  /-- `INC` zero page,X, `$F6`, 6 cycles (R160). -/
  | incZpx (z : Byte)
  /-- `INC` absolute,X, `$FE`, 7 cycles (R160). -/
  | incAbx (a : Word)
  /-- `DEC` zero page, `$C6`, 5 cycles (R161). -/
  | decZp (z : Byte)
  /-- `DEC` absolute, `$CE`, 6 cycles (R161). -/
  | decAbs (a : Word)
  /-- `DEC` zero page,X, `$D6`, 6 cycles (R161). -/
  | decZpx (z : Byte)
  /-- `DEC` absolute,X, `$DE`, 7 cycles (R161). -/
  | decAbx (a : Word)
  /-- `INX` implied, `$E8`, 2 cycles (R162). -/
  | inx
  /-- `INY` implied, `$C8`, 2 cycles (R163). -/
  | iny
  /-- `DEX` implied, `$CA`, 2 cycles (R164). -/
  | dex
  /-- `DEY` implied, `$88`, 2 cycles (R165). -/
  | dey
  /-- `ASL` zero page, `$06`, 5 cycles (R166). -/
  | aslZp (z : Byte)
  /-- `ASL` accumulator, `$0A`, 2 cycles (R166). -/
  | aslAcc
  /-- `ASL` absolute, `$0E`, 6 cycles (R166). -/
  | aslAbs (a : Word)
  /-- `ASL` zero page,X, `$16`, 6 cycles (R166). -/
  | aslZpx (z : Byte)
  /-- `ASL` absolute,X, `$1E`, 7 cycles (R166). -/
  | aslAbx (a : Word)
  /-- `LSR` zero page, `$46`, 5 cycles (R167). -/
  | lsrZp (z : Byte)
  /-- `LSR` accumulator, `$4A`, 2 cycles (R167). -/
  | lsrAcc
  /-- `LSR` absolute, `$4E`, 6 cycles (R167). -/
  | lsrAbs (a : Word)
  /-- `LSR` zero page,X, `$56`, 6 cycles (R167). -/
  | lsrZpx (z : Byte)
  /-- `LSR` absolute,X, `$5E`, 7 cycles (R167). -/
  | lsrAbx (a : Word)
  /-- `ROL` zero page, `$26`, 5 cycles (R168). -/
  | rolZp (z : Byte)
  /-- `ROL` accumulator, `$2A`, 2 cycles (R168). -/
  | rolAcc
  /-- `ROL` absolute, `$2E`, 6 cycles (R168). -/
  | rolAbs (a : Word)
  /-- `ROL` zero page,X, `$36`, 6 cycles (R168). -/
  | rolZpx (z : Byte)
  /-- `ROL` absolute,X, `$3E`, 7 cycles (R168). -/
  | rolAbx (a : Word)
  /-- `ROR` zero page, `$66`, 5 cycles (R169). -/
  | rorZp (z : Byte)
  /-- `ROR` accumulator, `$6A`, 2 cycles (R169). -/
  | rorAcc
  /-- `ROR` absolute, `$6E`, 6 cycles (R169). -/
  | rorAbs (a : Word)
  /-- `ROR` zero page,X, `$76`, 6 cycles (R169). -/
  | rorZpx (z : Byte)
  /-- `ROR` absolute,X, `$7E`, 7 cycles (R169). -/
  | rorAbx (a : Word)
  -- Jumps, calls, returns, branches, flags and NOP (42_control_flow_flags.md)
  /-- `JMP` absolute, `$4C`, 3 cycles (R191). -/
  | jmpAbs (a : Word)
  /-- `JMP` absolute indirect, `$6C`, 5 cycles (R192). -/
  | jmpInd (a : Word)
  /-- `JSR` absolute, `$20`, 6 cycles (R193). -/
  | jsrAbs (a : Word)
  /-- `RTS` implied, `$60`, 6 cycles (R194). -/
  | rts
  /-- `RTI` implied, `$40`, 6 cycles (R195). -/
  | rti
  /-- `BRK` implied, `$00`, 7 cycles (R196). -/
  | brk
  /-- `BPL` relative, `$10`, 2 cycles+ (R198). -/
  | bpl (off : Int)
  /-- `BMI` relative, `$30`, 2 cycles+ (R199). -/
  | bmi (off : Int)
  /-- `BVC` relative, `$50`, 2 cycles+ (R200). -/
  | bvc (off : Int)
  /-- `BVS` relative, `$70`, 2 cycles+ (R201). -/
  | bvs (off : Int)
  /-- `BCC` relative, `$90`, 2 cycles+ (R202). -/
  | bcc (off : Int)
  /-- `BCS` relative, `$B0`, 2 cycles+ (R203). -/
  | bcs (off : Int)
  /-- `BNE` relative, `$D0`, 2 cycles+ (R204). -/
  | bne (off : Int)
  /-- `BEQ` relative, `$F0`, 2 cycles+ (R205). -/
  | beq (off : Int)
  /-- `CLC` implied, `$18`, 2 cycles (R206). -/
  | clc
  /-- `SEC` implied, `$38`, 2 cycles (R207). -/
  | sec
  /-- `CLI` implied, `$58`, 2 cycles (R208). -/
  | cli
  /-- `SEI` implied, `$78`, 2 cycles (R209). -/
  | sei
  /-- `CLV` implied, `$B8`, 2 cycles (R210). -/
  | clv
  /-- `CLD` implied, `$D8`, 2 cycles (R211). -/
  | cld
  /-- `SED` implied, `$F8`, 2 cycles (R212). -/
  | sed
  /-- `NOP` implied, `$EA`, 2 cycles (R213). -/
  | nop
  -- Undocumented combined operations and no-ops (43_undocumented.md)
  /-- `SLO` (zero page,X), `$03`, 8 cycles (R231). -/
  | sloIzx (z : Byte)
  /-- `SLO` zero page, `$07`, 5 cycles (R231). -/
  | sloZp (z : Byte)
  /-- `SLO` absolute, `$0F`, 6 cycles (R231). -/
  | sloAbs (a : Word)
  /-- `SLO` (zero page),Y, `$13`, 8 cycles (R231). -/
  | sloIzy (z : Byte)
  /-- `SLO` zero page,X, `$17`, 6 cycles (R231). -/
  | sloZpx (z : Byte)
  /-- `SLO` absolute,Y, `$1B`, 7 cycles (R231). -/
  | sloAby (a : Word)
  /-- `SLO` absolute,X, `$1F`, 7 cycles (R231). -/
  | sloAbx (a : Word)
  /-- `RLA` (zero page,X), `$23`, 8 cycles (R232). -/
  | rlaIzx (z : Byte)
  /-- `RLA` zero page, `$27`, 5 cycles (R232). -/
  | rlaZp (z : Byte)
  /-- `RLA` absolute, `$2F`, 6 cycles (R232). -/
  | rlaAbs (a : Word)
  /-- `RLA` (zero page),Y, `$33`, 8 cycles (R232). -/
  | rlaIzy (z : Byte)
  /-- `RLA` zero page,X, `$37`, 6 cycles (R232). -/
  | rlaZpx (z : Byte)
  /-- `RLA` absolute,Y, `$3B`, 7 cycles (R232). -/
  | rlaAby (a : Word)
  /-- `RLA` absolute,X, `$3F`, 7 cycles (R232). -/
  | rlaAbx (a : Word)
  /-- `SRE` (zero page,X), `$43`, 8 cycles (R233). -/
  | sreIzx (z : Byte)
  /-- `SRE` zero page, `$47`, 5 cycles (R233). -/
  | sreZp (z : Byte)
  /-- `SRE` absolute, `$4F`, 6 cycles (R233). -/
  | sreAbs (a : Word)
  /-- `SRE` (zero page),Y, `$53`, 8 cycles (R233). -/
  | sreIzy (z : Byte)
  /-- `SRE` zero page,X, `$57`, 6 cycles (R233). -/
  | sreZpx (z : Byte)
  /-- `SRE` absolute,Y, `$5B`, 7 cycles (R233). -/
  | sreAby (a : Word)
  /-- `SRE` absolute,X, `$5F`, 7 cycles (R233). -/
  | sreAbx (a : Word)
  /-- `RRA` (zero page,X), `$63`, 8 cycles (R234). -/
  | rraIzx (z : Byte)
  /-- `RRA` zero page, `$67`, 5 cycles (R234). -/
  | rraZp (z : Byte)
  /-- `RRA` absolute, `$6F`, 6 cycles (R234). -/
  | rraAbs (a : Word)
  /-- `RRA` (zero page),Y, `$73`, 8 cycles (R234). -/
  | rraIzy (z : Byte)
  /-- `RRA` zero page,X, `$77`, 6 cycles (R234). -/
  | rraZpx (z : Byte)
  /-- `RRA` absolute,Y, `$7B`, 7 cycles (R234). -/
  | rraAby (a : Word)
  /-- `RRA` absolute,X, `$7F`, 7 cycles (R234). -/
  | rraAbx (a : Word)
  /-- `DCP` (zero page,X), `$C3`, 8 cycles (R237). -/
  | dcpIzx (z : Byte)
  /-- `DCP` zero page, `$C7`, 5 cycles (R237). -/
  | dcpZp (z : Byte)
  /-- `DCP` absolute, `$CF`, 6 cycles (R237). -/
  | dcpAbs (a : Word)
  /-- `DCP` (zero page),Y, `$D3`, 8 cycles (R237). -/
  | dcpIzy (z : Byte)
  /-- `DCP` zero page,X, `$D7`, 6 cycles (R237). -/
  | dcpZpx (z : Byte)
  /-- `DCP` absolute,Y, `$DB`, 7 cycles (R237). -/
  | dcpAby (a : Word)
  /-- `DCP` absolute,X, `$DF`, 7 cycles (R237). -/
  | dcpAbx (a : Word)
  /-- `ISC` (zero page,X), `$E3`, 8 cycles (R238). -/
  | iscIzx (z : Byte)
  /-- `ISC` zero page, `$E7`, 5 cycles (R238). -/
  | iscZp (z : Byte)
  /-- `ISC` absolute, `$EF`, 6 cycles (R238). -/
  | iscAbs (a : Word)
  /-- `ISC` (zero page),Y, `$F3`, 8 cycles (R238). -/
  | iscIzy (z : Byte)
  /-- `ISC` zero page,X, `$F7`, 6 cycles (R238). -/
  | iscZpx (z : Byte)
  /-- `ISC` absolute,Y, `$FB`, 7 cycles (R238). -/
  | iscAby (a : Word)
  /-- `ISC` absolute,X, `$FF`, 7 cycles (R238). -/
  | iscAbx (a : Word)
  /-- `SAX` (zero page,X), `$83`, 6 cycles (R235). -/
  | saxIzx (z : Byte)
  /-- `SAX` zero page, `$87`, 3 cycles (R235). -/
  | saxZp (z : Byte)
  /-- `SAX` absolute, `$8F`, 4 cycles (R235). -/
  | saxAbs (a : Word)
  /-- `SAX` zero page,Y, `$97`, 4 cycles (R235). -/
  | saxZpy (z : Byte)
  /-- `LAX` (zero page,X), `$A3`, 6 cycles (R236). -/
  | laxIzx (z : Byte)
  /-- `LAX` zero page, `$A7`, 3 cycles (R236). -/
  | laxZp (z : Byte)
  /-- `LAX` absolute, `$AF`, 4 cycles (R236). -/
  | laxAbs (a : Word)
  /-- `LAX` (zero page),Y, `$B3`, 5 cycles* (R236). -/
  | laxIzy (z : Byte)
  /-- `LAX` zero page,Y, `$B7`, 4 cycles (R236). -/
  | laxZpy (z : Byte)
  /-- `LAX` absolute,Y, `$BF`, 4 cycles* (R236). -/
  | laxAby (a : Word)
  /-- `ANC` immediate, `$0B`, 2 cycles (R239). -/
  | ancImm0B (v : Byte)
  /-- `ANC` immediate, `$2B`, 2 cycles (R239). -/
  | ancImm2B (v : Byte)
  /-- `ALR` immediate, `$4B`, 2 cycles (R240). -/
  | alrImm (v : Byte)
  /-- `ARR` immediate, `$6B`, 2 cycles (R251). -/
  | arrImm (v : Byte)
  /-- `SBX` immediate, `$CB`, 2 cycles (R242). -/
  | sbxImm (v : Byte)
  /-- `SBC` immediate, `$EB`, 2 cycles (R243). -/
  | sbcImmEB (v : Byte)
  /-- `NOP` zero page, `$04`, 3 cycles (R246). -/
  | nopZp04 (z : Byte)
  /-- `NOP` absolute, `$0C`, 4 cycles (R246). -/
  | nopAbs0C (a : Word)
  /-- `NOP` zero page,X, `$14`, 4 cycles (R246). -/
  | nopZpx14 (z : Byte)
  /-- `NOP` implied, `$1A`, 2 cycles (R244). -/
  | nopImp1A
  /-- `NOP` absolute,X, `$1C`, 4 cycles* (R246). -/
  | nopAbx1C (a : Word)
  /-- `NOP` zero page,X, `$34`, 4 cycles (R246). -/
  | nopZpx34 (z : Byte)
  /-- `NOP` implied, `$3A`, 2 cycles (R244). -/
  | nopImp3A
  /-- `NOP` absolute,X, `$3C`, 4 cycles* (R246). -/
  | nopAbx3C (a : Word)
  /-- `NOP` zero page, `$44`, 3 cycles (R246). -/
  | nopZp44 (z : Byte)
  /-- `NOP` zero page,X, `$54`, 4 cycles (R246). -/
  | nopZpx54 (z : Byte)
  /-- `NOP` implied, `$5A`, 2 cycles (R244). -/
  | nopImp5A
  /-- `NOP` absolute,X, `$5C`, 4 cycles* (R246). -/
  | nopAbx5C (a : Word)
  /-- `NOP` zero page, `$64`, 3 cycles (R246). -/
  | nopZp64 (z : Byte)
  /-- `NOP` zero page,X, `$74`, 4 cycles (R246). -/
  | nopZpx74 (z : Byte)
  /-- `NOP` implied, `$7A`, 2 cycles (R244). -/
  | nopImp7A
  /-- `NOP` absolute,X, `$7C`, 4 cycles* (R246). -/
  | nopAbx7C (a : Word)
  /-- `NOP` immediate, `$80`, 2 cycles (R245). -/
  | nopImm80 (v : Byte)
  /-- `NOP` immediate, `$82`, 2 cycles (R245). -/
  | nopImm82 (v : Byte)
  /-- `NOP` immediate, `$89`, 2 cycles (R245). -/
  | nopImm89 (v : Byte)
  /-- `NOP` immediate, `$C2`, 2 cycles (R245). -/
  | nopImmC2 (v : Byte)
  /-- `NOP` zero page,X, `$D4`, 4 cycles (R246). -/
  | nopZpxD4 (z : Byte)
  /-- `NOP` implied, `$DA`, 2 cycles (R244). -/
  | nopImpDA
  /-- `NOP` absolute,X, `$DC`, 4 cycles* (R246). -/
  | nopAbxDC (a : Word)
  /-- `NOP` immediate, `$E2`, 2 cycles (R245). -/
  | nopImmE2 (v : Byte)
  /-- `NOP` zero page,X, `$F4`, 4 cycles (R246). -/
  | nopZpxF4 (z : Byte)
  /-- `NOP` implied, `$FA`, 2 cycles (R244). -/
  | nopImpFA
  /-- `NOP` absolute,X, `$FC`, 4 cycles* (R246). -/
  | nopAbxFC (a : Word)
  -- Stub opcodes (43_undocumented.md section 5)
  /-- `JAM` implied, `$02` (R261). -/
  | jam02
  /-- `JAM` implied, `$12` (R261). -/
  | jam12
  /-- `JAM` implied, `$22` (R261). -/
  | jam22
  /-- `JAM` implied, `$32` (R261). -/
  | jam32
  /-- `JAM` implied, `$42` (R261). -/
  | jam42
  /-- `JAM` implied, `$52` (R261). -/
  | jam52
  /-- `JAM` implied, `$62` (R261). -/
  | jam62
  /-- `JAM` implied, `$72` (R261). -/
  | jam72
  /-- `JAM` implied, `$92` (R261). -/
  | jam92
  /-- `JAM` implied, `$B2` (R261). -/
  | jamB2
  /-- `JAM` implied, `$D2` (R261). -/
  | jamD2
  /-- `JAM` implied, `$F2` (R261). -/
  | jamF2
  /-- `ANE` immediate, `$8B` (R262). -/
  | aneImm
  /-- `LXA` immediate, `$AB` (R263). -/
  | lxaImm
  /-- `SHA` (zero page),Y, `$93` (R264). -/
  | shaIzy
  /-- `SHA` absolute,Y, `$9F` (R264). -/
  | shaAby
  /-- `SHX` absolute,Y, `$9E` (R265). -/
  | shxAby
  /-- `SHY` absolute,X, `$9C` (R266). -/
  | shyAbx
  /-- `TAS` absolute,Y, `$9B` (R267). -/
  | tasAby
  /-- `LAS` absolute,Y, `$BB` (R268). -/
  | lasAby
  deriving DecidableEq, Repr

/-- The eight addressing modes that yield an effective address in memory (R95 to R102). -/
inductive MemOperand where
  | zp (z : Byte)
  | zpx (z : Byte)
  | zpy (z : Byte)
  | abs (a : Word)
  | abx (a : Word)
  | aby (a : Word)
  | izx (z : Byte)
  | izy (z : Byte)
  deriving DecidableEq, Repr

/-- An operand that is read as data: the accumulator, an immediate byte, or a memory operand. -/
inductive Operand where
  | acc
  | imm (v : Byte)
  | mem (m : MemOperand)
  deriving DecidableEq, Repr

/-- The operand form of an instruction, one alternative per kind of mode (R90 to R102). -/
inductive Form where
  | imp
  | rel (off : Int)
  | ind (p : Word)
  | data (o : Operand)
  deriving DecidableEq, Repr

/-- The names of the 13 addressing modes, with the letters of the table's field `format` (R90 to R102). -/
inductive Mode where
  | imp
  | acc
  | imm
  | ind
  | rel
  | abs
  | abx
  | aby
  | zp
  | zpx
  | zpy
  | izy
  | izx
  deriving DecidableEq, Repr

/-- The 76 mnemonics of spec/opcode_table.json. -/
inductive Mnemonic where
  | LDA | LDX | LDY | STA | STX | STY | TAX | TAY
  | TXA | TYA | TSX | TXS | PHA | PHP | PLA | PLP
  | ADC | SBC | AND | ORA | EOR | BIT | CMP | CPX
  | CPY | INC | DEC | INX | INY | DEX | DEY | ASL
  | LSR | ROL | ROR | JMP | JSR | RTS | RTI | BRK
  | BPL | BMI | BVC | BVS | BCC | BCS | BNE | BEQ
  | CLC | SEC | CLI | SEI | CLV | CLD | SED | NOP
  | SLO | RLA | SRE | RRA | DCP | ISC | SAX | LAX
  | ANC | ALR | ARR | SBX | JAM | ANE | LXA | SHA
  | SHX | SHY | TAS | LAS
  deriving DecidableEq, Repr

/-- The four classes of the table (R107, R108). -/
inductive OpClass where
  | documented
  | implemented
  | hint
  | stub
  deriving DecidableEq, Repr

end Sys2Proof
end

