-- ==== Sys2Proof/WellFormed.lean ====
section
/-! DEFINITION. Which terms of `Instr` are instructions of the machine. The operand types leave one thing to
check: "The relative operand is `target - (address of branch + 2)`, which must lie in -128..+127" (R110, R83). -/

namespace Sys2Proof

/-- A branch displacement that its operand byte can hold (R83, R110). -/
def relInRange (off : Int) : Bool := -128 ≤ off && off ≤ 127

/-- A well-formed instruction. -/
def Instr.wf : Instr → Bool
  | .ldaIzx _ => true
  | .ldaZp _ => true
  | .ldaImm _ => true
  | .ldaAbs _ => true
  | .ldaIzy _ => true
  | .ldaZpx _ => true
  | .ldaAby _ => true
  | .ldaAbx _ => true
  | .ldxImm _ => true
  | .ldxZp _ => true
  | .ldxAbs _ => true
  | .ldxZpy _ => true
  | .ldxAby _ => true
  | .ldyImm _ => true
  | .ldyZp _ => true
  | .ldyAbs _ => true
  | .ldyZpx _ => true
  | .ldyAbx _ => true
  | .staIzx _ => true
  | .staZp _ => true
  | .staAbs _ => true
  | .staIzy _ => true
  | .staZpx _ => true
  | .staAby _ => true
  | .staAbx _ => true
  | .stxZp _ => true
  | .stxAbs _ => true
  | .stxZpy _ => true
  | .styZp _ => true
  | .styAbs _ => true
  | .styZpx _ => true
  | .tax => true
  | .tay => true
  | .txa => true
  | .tya => true
  | .tsx => true
  | .txs => true
  | .pha => true
  | .php => true
  | .pla => true
  | .plp => true
  | .adcIzx _ => true
  | .adcZp _ => true
  | .adcImm _ => true
  | .adcAbs _ => true
  | .adcIzy _ => true
  | .adcZpx _ => true
  | .adcAby _ => true
  | .adcAbx _ => true
  | .sbcIzx _ => true
  | .sbcZp _ => true
  | .sbcImm _ => true
  | .sbcAbs _ => true
  | .sbcIzy _ => true
  | .sbcZpx _ => true
  | .sbcAby _ => true
  | .sbcAbx _ => true
  | .andIzx _ => true
  | .andZp _ => true
  | .andImm _ => true
  | .andAbs _ => true
  | .andIzy _ => true
  | .andZpx _ => true
  | .andAby _ => true
  | .andAbx _ => true
  | .oraIzx _ => true
  | .oraZp _ => true
  | .oraImm _ => true
  | .oraAbs _ => true
  | .oraIzy _ => true
  | .oraZpx _ => true
  | .oraAby _ => true
  | .oraAbx _ => true
  | .eorIzx _ => true
  | .eorZp _ => true
  | .eorImm _ => true
  | .eorAbs _ => true
  | .eorIzy _ => true
  | .eorZpx _ => true
  | .eorAby _ => true
  | .eorAbx _ => true
  | .bitZp _ => true
  | .bitAbs _ => true
  | .cmpIzx _ => true
  | .cmpZp _ => true
  | .cmpImm _ => true
  | .cmpAbs _ => true
  | .cmpIzy _ => true
  | .cmpZpx _ => true
  | .cmpAby _ => true
  | .cmpAbx _ => true
  | .cpxImm _ => true
  | .cpxZp _ => true
  | .cpxAbs _ => true
  | .cpyImm _ => true
  | .cpyZp _ => true
  | .cpyAbs _ => true
  | .incZp _ => true
  | .incAbs _ => true
  | .incZpx _ => true
  | .incAbx _ => true
  | .decZp _ => true
  | .decAbs _ => true
  | .decZpx _ => true
  | .decAbx _ => true
  | .inx => true
  | .iny => true
  | .dex => true
  | .dey => true
  | .aslZp _ => true
  | .aslAcc => true
  | .aslAbs _ => true
  | .aslZpx _ => true
  | .aslAbx _ => true
  | .lsrZp _ => true
  | .lsrAcc => true
  | .lsrAbs _ => true
  | .lsrZpx _ => true
  | .lsrAbx _ => true
  | .rolZp _ => true
  | .rolAcc => true
  | .rolAbs _ => true
  | .rolZpx _ => true
  | .rolAbx _ => true
  | .rorZp _ => true
  | .rorAcc => true
  | .rorAbs _ => true
  | .rorZpx _ => true
  | .rorAbx _ => true
  | .jmpAbs _ => true
  | .jmpInd _ => true
  | .jsrAbs _ => true
  | .rts => true
  | .rti => true
  | .brk => true
  | .bpl off => relInRange off
  | .bmi off => relInRange off
  | .bvc off => relInRange off
  | .bvs off => relInRange off
  | .bcc off => relInRange off
  | .bcs off => relInRange off
  | .bne off => relInRange off
  | .beq off => relInRange off
  | .clc => true
  | .sec => true
  | .cli => true
  | .sei => true
  | .clv => true
  | .cld => true
  | .sed => true
  | .nop => true
  | .sloIzx _ => true
  | .sloZp _ => true
  | .sloAbs _ => true
  | .sloIzy _ => true
  | .sloZpx _ => true
  | .sloAby _ => true
  | .sloAbx _ => true
  | .rlaIzx _ => true
  | .rlaZp _ => true
  | .rlaAbs _ => true
  | .rlaIzy _ => true
  | .rlaZpx _ => true
  | .rlaAby _ => true
  | .rlaAbx _ => true
  | .sreIzx _ => true
  | .sreZp _ => true
  | .sreAbs _ => true
  | .sreIzy _ => true
  | .sreZpx _ => true
  | .sreAby _ => true
  | .sreAbx _ => true
  | .rraIzx _ => true
  | .rraZp _ => true
  | .rraAbs _ => true
  | .rraIzy _ => true
  | .rraZpx _ => true
  | .rraAby _ => true
  | .rraAbx _ => true
  | .dcpIzx _ => true
  | .dcpZp _ => true
  | .dcpAbs _ => true
  | .dcpIzy _ => true
  | .dcpZpx _ => true
  | .dcpAby _ => true
  | .dcpAbx _ => true
  | .iscIzx _ => true
  | .iscZp _ => true
  | .iscAbs _ => true
  | .iscIzy _ => true
  | .iscZpx _ => true
  | .iscAby _ => true
  | .iscAbx _ => true
  | .saxIzx _ => true
  | .saxZp _ => true
  | .saxAbs _ => true
  | .saxZpy _ => true
  | .laxIzx _ => true
  | .laxZp _ => true
  | .laxAbs _ => true
  | .laxIzy _ => true
  | .laxZpy _ => true
  | .laxAby _ => true
  | .ancImm0B _ => true
  | .ancImm2B _ => true
  | .alrImm _ => true
  | .arrImm _ => true
  | .sbxImm _ => true
  | .sbcImmEB _ => true
  | .nopZp04 _ => true
  | .nopAbs0C _ => true
  | .nopZpx14 _ => true
  | .nopImp1A => true
  | .nopAbx1C _ => true
  | .nopZpx34 _ => true
  | .nopImp3A => true
  | .nopAbx3C _ => true
  | .nopZp44 _ => true
  | .nopZpx54 _ => true
  | .nopImp5A => true
  | .nopAbx5C _ => true
  | .nopZp64 _ => true
  | .nopZpx74 _ => true
  | .nopImp7A => true
  | .nopAbx7C _ => true
  | .nopImm80 _ => true
  | .nopImm82 _ => true
  | .nopImm89 _ => true
  | .nopImmC2 _ => true
  | .nopZpxD4 _ => true
  | .nopImpDA => true
  | .nopAbxDC _ => true
  | .nopImmE2 _ => true
  | .nopZpxF4 _ => true
  | .nopImpFA => true
  | .nopAbxFC _ => true
  | .jam02 => true
  | .jam12 => true
  | .jam22 => true
  | .jam32 => true
  | .jam42 => true
  | .jam52 => true
  | .jam62 => true
  | .jam72 => true
  | .jam92 => true
  | .jamB2 => true
  | .jamD2 => true
  | .jamF2 => true
  | .aneImm => true
  | .lxaImm => true
  | .shaIzy => true
  | .shaAby => true
  | .shxAby => true
  | .shyAbx => true
  | .tasAby => true
  | .lasAby => true

end Sys2Proof
end

