-- ==== Sys2Proof/Decode.lean ====
section
/-! DEFINITION. Decoding and encoding (spec/30_encoding.md). The opcode byte alone selects the row (R80, R81);
operand bytes follow at ascending addresses, a 16-bit operand low byte first (R83). The table below is
the 16 x 16 matrix of R106. `encode` is written from the instruction rules' own opcode lists. -/

namespace Sys2Proof

/-- `hi:lo` (00_scope.md section 5). -/
def joinBytes (hi lo : Byte) : Word := hi ++ lo

/-- The low byte of a word. -/
def lowByte (w : Word) : Byte := w.setWidth 8

/-- The high byte of a word. -/
def highByte (w : Word) : Byte := (w >>> 8).setWidth 8

/-- `sext_8`: the signed reading of a byte (00_scope.md section 5, R83). -/
def signedByte (b : Byte) : Int := b.toInt

/-- The byte that reads as the displacement `off` (R83, R110). -/
def relByte (off : Int) : Byte := BitVec.ofInt 8 off

/-- What an opcode byte asks for: its row's instruction, once 0, 1 or 2 operand bytes are there (R80). -/
inductive Pattern where
  /-- Format F1: no operand byte is fetched. -/
  | f1 (i : Instr)
  /-- Format F2: one operand byte. -/
  | f2 (make : Byte → Instr)
  /-- Format F3: two operand bytes, low first. -/
  | f3 (make : Word → Instr)

/-- A branch row: the operand byte is read as signed (R94). -/
def Pattern.rel (make : Int → Instr) : Pattern := .f2 fun b => make (signedByte b)

/-- Opcodes `$00` to `$0F` (R106). -/
def opcodeRow0 : List Pattern :=
  [.f1 .brk, .f2 .oraIzx, .f1 .jam02, .f2 .sloIzx,
   .f2 .nopZp04, .f2 .oraZp, .f2 .aslZp, .f2 .sloZp,
   .f1 .php, .f2 .oraImm, .f1 .aslAcc, .f2 .ancImm0B,
   .f3 .nopAbs0C, .f3 .oraAbs, .f3 .aslAbs, .f3 .sloAbs]

/-- Opcodes `$10` to `$1F` (R106). -/
def opcodeRow1 : List Pattern :=
  [.rel .bpl, .f2 .oraIzy, .f1 .jam12, .f2 .sloIzy,
   .f2 .nopZpx14, .f2 .oraZpx, .f2 .aslZpx, .f2 .sloZpx,
   .f1 .clc, .f3 .oraAby, .f1 .nopImp1A, .f3 .sloAby,
   .f3 .nopAbx1C, .f3 .oraAbx, .f3 .aslAbx, .f3 .sloAbx]

/-- Opcodes `$20` to `$2F` (R106). -/
def opcodeRow2 : List Pattern :=
  [.f3 .jsrAbs, .f2 .andIzx, .f1 .jam22, .f2 .rlaIzx,
   .f2 .bitZp, .f2 .andZp, .f2 .rolZp, .f2 .rlaZp,
   .f1 .plp, .f2 .andImm, .f1 .rolAcc, .f2 .ancImm2B,
   .f3 .bitAbs, .f3 .andAbs, .f3 .rolAbs, .f3 .rlaAbs]

/-- Opcodes `$30` to `$3F` (R106). -/
def opcodeRow3 : List Pattern :=
  [.rel .bmi, .f2 .andIzy, .f1 .jam32, .f2 .rlaIzy,
   .f2 .nopZpx34, .f2 .andZpx, .f2 .rolZpx, .f2 .rlaZpx,
   .f1 .sec, .f3 .andAby, .f1 .nopImp3A, .f3 .rlaAby,
   .f3 .nopAbx3C, .f3 .andAbx, .f3 .rolAbx, .f3 .rlaAbx]

/-- Opcodes `$40` to `$4F` (R106). -/
def opcodeRow4 : List Pattern :=
  [.f1 .rti, .f2 .eorIzx, .f1 .jam42, .f2 .sreIzx,
   .f2 .nopZp44, .f2 .eorZp, .f2 .lsrZp, .f2 .sreZp,
   .f1 .pha, .f2 .eorImm, .f1 .lsrAcc, .f2 .alrImm,
   .f3 .jmpAbs, .f3 .eorAbs, .f3 .lsrAbs, .f3 .sreAbs]

/-- Opcodes `$50` to `$5F` (R106). -/
def opcodeRow5 : List Pattern :=
  [.rel .bvc, .f2 .eorIzy, .f1 .jam52, .f2 .sreIzy,
   .f2 .nopZpx54, .f2 .eorZpx, .f2 .lsrZpx, .f2 .sreZpx,
   .f1 .cli, .f3 .eorAby, .f1 .nopImp5A, .f3 .sreAby,
   .f3 .nopAbx5C, .f3 .eorAbx, .f3 .lsrAbx, .f3 .sreAbx]

/-- Opcodes `$60` to `$6F` (R106). -/
def opcodeRow6 : List Pattern :=
  [.f1 .rts, .f2 .adcIzx, .f1 .jam62, .f2 .rraIzx,
   .f2 .nopZp64, .f2 .adcZp, .f2 .rorZp, .f2 .rraZp,
   .f1 .pla, .f2 .adcImm, .f1 .rorAcc, .f2 .arrImm,
   .f3 .jmpInd, .f3 .adcAbs, .f3 .rorAbs, .f3 .rraAbs]

/-- Opcodes `$70` to `$7F` (R106). -/
def opcodeRow7 : List Pattern :=
  [.rel .bvs, .f2 .adcIzy, .f1 .jam72, .f2 .rraIzy,
   .f2 .nopZpx74, .f2 .adcZpx, .f2 .rorZpx, .f2 .rraZpx,
   .f1 .sei, .f3 .adcAby, .f1 .nopImp7A, .f3 .rraAby,
   .f3 .nopAbx7C, .f3 .adcAbx, .f3 .rorAbx, .f3 .rraAbx]

/-- Opcodes `$80` to `$8F` (R106). -/
def opcodeRow8 : List Pattern :=
  [.f2 .nopImm80, .f2 .staIzx, .f2 .nopImm82, .f2 .saxIzx,
   .f2 .styZp, .f2 .staZp, .f2 .stxZp, .f2 .saxZp,
   .f1 .dey, .f2 .nopImm89, .f1 .txa, .f1 .aneImm,
   .f3 .styAbs, .f3 .staAbs, .f3 .stxAbs, .f3 .saxAbs]

/-- Opcodes `$90` to `$9F` (R106). -/
def opcodeRow9 : List Pattern :=
  [.rel .bcc, .f2 .staIzy, .f1 .jam92, .f1 .shaIzy,
   .f2 .styZpx, .f2 .staZpx, .f2 .stxZpy, .f2 .saxZpy,
   .f1 .tya, .f3 .staAby, .f1 .txs, .f1 .tasAby,
   .f1 .shyAbx, .f3 .staAbx, .f1 .shxAby, .f1 .shaAby]

/-- Opcodes `$A0` to `$AF` (R106). -/
def opcodeRowA : List Pattern :=
  [.f2 .ldyImm, .f2 .ldaIzx, .f2 .ldxImm, .f2 .laxIzx,
   .f2 .ldyZp, .f2 .ldaZp, .f2 .ldxZp, .f2 .laxZp,
   .f1 .tay, .f2 .ldaImm, .f1 .tax, .f1 .lxaImm,
   .f3 .ldyAbs, .f3 .ldaAbs, .f3 .ldxAbs, .f3 .laxAbs]

/-- Opcodes `$B0` to `$BF` (R106). -/
def opcodeRowB : List Pattern :=
  [.rel .bcs, .f2 .ldaIzy, .f1 .jamB2, .f2 .laxIzy,
   .f2 .ldyZpx, .f2 .ldaZpx, .f2 .ldxZpy, .f2 .laxZpy,
   .f1 .clv, .f3 .ldaAby, .f1 .tsx, .f1 .lasAby,
   .f3 .ldyAbx, .f3 .ldaAbx, .f3 .ldxAby, .f3 .laxAby]

/-- Opcodes `$C0` to `$CF` (R106). -/
def opcodeRowC : List Pattern :=
  [.f2 .cpyImm, .f2 .cmpIzx, .f2 .nopImmC2, .f2 .dcpIzx,
   .f2 .cpyZp, .f2 .cmpZp, .f2 .decZp, .f2 .dcpZp,
   .f1 .iny, .f2 .cmpImm, .f1 .dex, .f2 .sbxImm,
   .f3 .cpyAbs, .f3 .cmpAbs, .f3 .decAbs, .f3 .dcpAbs]

/-- Opcodes `$D0` to `$DF` (R106). -/
def opcodeRowD : List Pattern :=
  [.rel .bne, .f2 .cmpIzy, .f1 .jamD2, .f2 .dcpIzy,
   .f2 .nopZpxD4, .f2 .cmpZpx, .f2 .decZpx, .f2 .dcpZpx,
   .f1 .cld, .f3 .cmpAby, .f1 .nopImpDA, .f3 .dcpAby,
   .f3 .nopAbxDC, .f3 .cmpAbx, .f3 .decAbx, .f3 .dcpAbx]

/-- Opcodes `$E0` to `$EF` (R106). -/
def opcodeRowE : List Pattern :=
  [.f2 .cpxImm, .f2 .sbcIzx, .f2 .nopImmE2, .f2 .iscIzx,
   .f2 .cpxZp, .f2 .sbcZp, .f2 .incZp, .f2 .iscZp,
   .f1 .inx, .f2 .sbcImm, .f1 .nop, .f2 .sbcImmEB,
   .f3 .cpxAbs, .f3 .sbcAbs, .f3 .incAbs, .f3 .iscAbs]

/-- Opcodes `$F0` to `$FF` (R106). -/
def opcodeRowF : List Pattern :=
  [.rel .beq, .f2 .sbcIzy, .f1 .jamF2, .f2 .iscIzy,
   .f2 .nopZpxF4, .f2 .sbcZpx, .f2 .incZpx, .f2 .iscZpx,
   .f1 .sed, .f3 .sbcAby, .f1 .nopImpFA, .f3 .iscAby,
   .f3 .nopAbxFC, .f3 .sbcAbx, .f3 .incAbx, .f3 .iscAbx]

/-- The full 256-entry opcode table (R81, R106). -/
def opcodeTable : List Pattern :=
  opcodeRow0 ++ opcodeRow1 ++ opcodeRow2 ++ opcodeRow3 ++ opcodeRow4 ++ opcodeRow5 ++ opcodeRow6 ++ opcodeRow7 ++
  opcodeRow8 ++ opcodeRow9 ++ opcodeRowA ++ opcodeRowB ++ opcodeRowC ++ opcodeRowD ++ opcodeRowE ++ opcodeRowF

/-- The row of an opcode byte (R81). -/
def patternOf (op : Byte) : Option Pattern := opcodeTable[op.toNat]?

/-- Why a byte string is no instruction. -/
inductive DecodeError where
  /-- There is no opcode byte. -/
  | noOpcode
  /-- The opcode's operand bytes are missing (R80). -/
  | truncated (op : Byte)
  /-- The opcode has no row. No byte is such an opcode: R81 gives each of the 256 values one row. -/
  | noRow (op : Byte)
  deriving DecidableEq, Repr

/-- Decode the first instruction of a byte string, with the bytes after it. -/
def decode : List Byte → Except DecodeError (Instr × List Byte)
  | [] => .error .noOpcode
  | op :: rest =>
    match patternOf op with
    | none => .error (.noRow op)
    | some (.f1 i) => .ok (i, rest)
    | some (.f2 make) =>
      match rest with
      | b :: rest' => .ok (make b, rest')
      | [] => .error (.truncated op)
    | some (.f3 make) =>
      match rest with
      | lo :: hi :: rest' => .ok (make (joinBytes hi lo), rest')
      | _ => .error (.truncated op)

/-- One operand byte. -/
def encodeByte (op : Byte) (b : Byte) : List Byte := [op, b]

/-- A 16-bit operand, low byte first (R83). -/
def encodeWord (op : Byte) (w : Word) : List Byte := [op, lowByte w, highByte w]

/-- The bytes of an instruction, from the opcode list of each instruction's rule (R80, R83). -/
def encode : Instr → List Byte
  -- Loads, stores, transfers and stack (40_load_store_transfer.md)
  | .ldaIzx z => encodeByte 0xA1 z
  | .ldaZp z => encodeByte 0xA5 z
  | .ldaImm v => encodeByte 0xA9 v
  | .ldaAbs a => encodeWord 0xAD a
  | .ldaIzy z => encodeByte 0xB1 z
  | .ldaZpx z => encodeByte 0xB5 z
  | .ldaAby a => encodeWord 0xB9 a
  | .ldaAbx a => encodeWord 0xBD a
  | .ldxImm v => encodeByte 0xA2 v
  | .ldxZp z => encodeByte 0xA6 z
  | .ldxAbs a => encodeWord 0xAE a
  | .ldxZpy z => encodeByte 0xB6 z
  | .ldxAby a => encodeWord 0xBE a
  | .ldyImm v => encodeByte 0xA0 v
  | .ldyZp z => encodeByte 0xA4 z
  | .ldyAbs a => encodeWord 0xAC a
  | .ldyZpx z => encodeByte 0xB4 z
  | .ldyAbx a => encodeWord 0xBC a
  | .staIzx z => encodeByte 0x81 z
  | .staZp z => encodeByte 0x85 z
  | .staAbs a => encodeWord 0x8D a
  | .staIzy z => encodeByte 0x91 z
  | .staZpx z => encodeByte 0x95 z
  | .staAby a => encodeWord 0x99 a
  | .staAbx a => encodeWord 0x9D a
  | .stxZp z => encodeByte 0x86 z
  | .stxAbs a => encodeWord 0x8E a
  | .stxZpy z => encodeByte 0x96 z
  | .styZp z => encodeByte 0x84 z
  | .styAbs a => encodeWord 0x8C a
  | .styZpx z => encodeByte 0x94 z
  | .tax => [0xAA]
  | .tay => [0xA8]
  | .txa => [0x8A]
  | .tya => [0x98]
  | .tsx => [0xBA]
  | .txs => [0x9A]
  | .pha => [0x48]
  | .php => [0x08]
  | .pla => [0x68]
  | .plp => [0x28]
  -- Arithmetic, logic, compare, increment and shift (41_arithmetic_logic.md)
  | .adcIzx z => encodeByte 0x61 z
  | .adcZp z => encodeByte 0x65 z
  | .adcImm v => encodeByte 0x69 v
  | .adcAbs a => encodeWord 0x6D a
  | .adcIzy z => encodeByte 0x71 z
  | .adcZpx z => encodeByte 0x75 z
  | .adcAby a => encodeWord 0x79 a
  | .adcAbx a => encodeWord 0x7D a
  | .sbcIzx z => encodeByte 0xE1 z
  | .sbcZp z => encodeByte 0xE5 z
  | .sbcImm v => encodeByte 0xE9 v
  | .sbcAbs a => encodeWord 0xED a
  | .sbcIzy z => encodeByte 0xF1 z
  | .sbcZpx z => encodeByte 0xF5 z
  | .sbcAby a => encodeWord 0xF9 a
  | .sbcAbx a => encodeWord 0xFD a
  | .andIzx z => encodeByte 0x21 z
  | .andZp z => encodeByte 0x25 z
  | .andImm v => encodeByte 0x29 v
  | .andAbs a => encodeWord 0x2D a
  | .andIzy z => encodeByte 0x31 z
  | .andZpx z => encodeByte 0x35 z
  | .andAby a => encodeWord 0x39 a
  | .andAbx a => encodeWord 0x3D a
  | .oraIzx z => encodeByte 0x01 z
  | .oraZp z => encodeByte 0x05 z
  | .oraImm v => encodeByte 0x09 v
  | .oraAbs a => encodeWord 0x0D a
  | .oraIzy z => encodeByte 0x11 z
  | .oraZpx z => encodeByte 0x15 z
  | .oraAby a => encodeWord 0x19 a
  | .oraAbx a => encodeWord 0x1D a
  | .eorIzx z => encodeByte 0x41 z
  | .eorZp z => encodeByte 0x45 z
  | .eorImm v => encodeByte 0x49 v
  | .eorAbs a => encodeWord 0x4D a
  | .eorIzy z => encodeByte 0x51 z
  | .eorZpx z => encodeByte 0x55 z
  | .eorAby a => encodeWord 0x59 a
  | .eorAbx a => encodeWord 0x5D a
  | .bitZp z => encodeByte 0x24 z
  | .bitAbs a => encodeWord 0x2C a
  | .cmpIzx z => encodeByte 0xC1 z
  | .cmpZp z => encodeByte 0xC5 z
  | .cmpImm v => encodeByte 0xC9 v
  | .cmpAbs a => encodeWord 0xCD a
  | .cmpIzy z => encodeByte 0xD1 z
  | .cmpZpx z => encodeByte 0xD5 z
  | .cmpAby a => encodeWord 0xD9 a
  | .cmpAbx a => encodeWord 0xDD a
  | .cpxImm v => encodeByte 0xE0 v
  | .cpxZp z => encodeByte 0xE4 z
  | .cpxAbs a => encodeWord 0xEC a
  | .cpyImm v => encodeByte 0xC0 v
  | .cpyZp z => encodeByte 0xC4 z
  | .cpyAbs a => encodeWord 0xCC a
  | .incZp z => encodeByte 0xE6 z
  | .incAbs a => encodeWord 0xEE a
  | .incZpx z => encodeByte 0xF6 z
  | .incAbx a => encodeWord 0xFE a
  | .decZp z => encodeByte 0xC6 z
  | .decAbs a => encodeWord 0xCE a
  | .decZpx z => encodeByte 0xD6 z
  | .decAbx a => encodeWord 0xDE a
  | .inx => [0xE8]
  | .iny => [0xC8]
  | .dex => [0xCA]
  | .dey => [0x88]
  | .aslZp z => encodeByte 0x06 z
  | .aslAcc => [0x0A]
  | .aslAbs a => encodeWord 0x0E a
  | .aslZpx z => encodeByte 0x16 z
  | .aslAbx a => encodeWord 0x1E a
  | .lsrZp z => encodeByte 0x46 z
  | .lsrAcc => [0x4A]
  | .lsrAbs a => encodeWord 0x4E a
  | .lsrZpx z => encodeByte 0x56 z
  | .lsrAbx a => encodeWord 0x5E a
  | .rolZp z => encodeByte 0x26 z
  | .rolAcc => [0x2A]
  | .rolAbs a => encodeWord 0x2E a
  | .rolZpx z => encodeByte 0x36 z
  | .rolAbx a => encodeWord 0x3E a
  | .rorZp z => encodeByte 0x66 z
  | .rorAcc => [0x6A]
  | .rorAbs a => encodeWord 0x6E a
  | .rorZpx z => encodeByte 0x76 z
  | .rorAbx a => encodeWord 0x7E a
  -- Jumps, calls, returns, branches, flags and NOP (42_control_flow_flags.md)
  | .jmpAbs a => encodeWord 0x4C a
  | .jmpInd a => encodeWord 0x6C a
  | .jsrAbs a => encodeWord 0x20 a
  | .rts => [0x60]
  | .rti => [0x40]
  | .brk => [0x00]
  | .bpl off => encodeByte 0x10 (relByte off)
  | .bmi off => encodeByte 0x30 (relByte off)
  | .bvc off => encodeByte 0x50 (relByte off)
  | .bvs off => encodeByte 0x70 (relByte off)
  | .bcc off => encodeByte 0x90 (relByte off)
  | .bcs off => encodeByte 0xB0 (relByte off)
  | .bne off => encodeByte 0xD0 (relByte off)
  | .beq off => encodeByte 0xF0 (relByte off)
  | .clc => [0x18]
  | .sec => [0x38]
  | .cli => [0x58]
  | .sei => [0x78]
  | .clv => [0xB8]
  | .cld => [0xD8]
  | .sed => [0xF8]
  | .nop => [0xEA]
  -- Undocumented combined operations and no-ops (43_undocumented.md)
  | .sloIzx z => encodeByte 0x03 z
  | .sloZp z => encodeByte 0x07 z
  | .sloAbs a => encodeWord 0x0F a
  | .sloIzy z => encodeByte 0x13 z
  | .sloZpx z => encodeByte 0x17 z
  | .sloAby a => encodeWord 0x1B a
  | .sloAbx a => encodeWord 0x1F a
  | .rlaIzx z => encodeByte 0x23 z
  | .rlaZp z => encodeByte 0x27 z
  | .rlaAbs a => encodeWord 0x2F a
  | .rlaIzy z => encodeByte 0x33 z
  | .rlaZpx z => encodeByte 0x37 z
  | .rlaAby a => encodeWord 0x3B a
  | .rlaAbx a => encodeWord 0x3F a
  | .sreIzx z => encodeByte 0x43 z
  | .sreZp z => encodeByte 0x47 z
  | .sreAbs a => encodeWord 0x4F a
  | .sreIzy z => encodeByte 0x53 z
  | .sreZpx z => encodeByte 0x57 z
  | .sreAby a => encodeWord 0x5B a
  | .sreAbx a => encodeWord 0x5F a
  | .rraIzx z => encodeByte 0x63 z
  | .rraZp z => encodeByte 0x67 z
  | .rraAbs a => encodeWord 0x6F a
  | .rraIzy z => encodeByte 0x73 z
  | .rraZpx z => encodeByte 0x77 z
  | .rraAby a => encodeWord 0x7B a
  | .rraAbx a => encodeWord 0x7F a
  | .dcpIzx z => encodeByte 0xC3 z
  | .dcpZp z => encodeByte 0xC7 z
  | .dcpAbs a => encodeWord 0xCF a
  | .dcpIzy z => encodeByte 0xD3 z
  | .dcpZpx z => encodeByte 0xD7 z
  | .dcpAby a => encodeWord 0xDB a
  | .dcpAbx a => encodeWord 0xDF a
  | .iscIzx z => encodeByte 0xE3 z
  | .iscZp z => encodeByte 0xE7 z
  | .iscAbs a => encodeWord 0xEF a
  | .iscIzy z => encodeByte 0xF3 z
  | .iscZpx z => encodeByte 0xF7 z
  | .iscAby a => encodeWord 0xFB a
  | .iscAbx a => encodeWord 0xFF a
  | .saxIzx z => encodeByte 0x83 z
  | .saxZp z => encodeByte 0x87 z
  | .saxAbs a => encodeWord 0x8F a
  | .saxZpy z => encodeByte 0x97 z
  | .laxIzx z => encodeByte 0xA3 z
  | .laxZp z => encodeByte 0xA7 z
  | .laxAbs a => encodeWord 0xAF a
  | .laxIzy z => encodeByte 0xB3 z
  | .laxZpy z => encodeByte 0xB7 z
  | .laxAby a => encodeWord 0xBF a
  | .ancImm0B v => encodeByte 0x0B v
  | .ancImm2B v => encodeByte 0x2B v
  | .alrImm v => encodeByte 0x4B v
  | .arrImm v => encodeByte 0x6B v
  | .sbxImm v => encodeByte 0xCB v
  | .sbcImmEB v => encodeByte 0xEB v
  | .nopZp04 z => encodeByte 0x04 z
  | .nopAbs0C a => encodeWord 0x0C a
  | .nopZpx14 z => encodeByte 0x14 z
  | .nopImp1A => [0x1A]
  | .nopAbx1C a => encodeWord 0x1C a
  | .nopZpx34 z => encodeByte 0x34 z
  | .nopImp3A => [0x3A]
  | .nopAbx3C a => encodeWord 0x3C a
  | .nopZp44 z => encodeByte 0x44 z
  | .nopZpx54 z => encodeByte 0x54 z
  | .nopImp5A => [0x5A]
  | .nopAbx5C a => encodeWord 0x5C a
  | .nopZp64 z => encodeByte 0x64 z
  | .nopZpx74 z => encodeByte 0x74 z
  | .nopImp7A => [0x7A]
  | .nopAbx7C a => encodeWord 0x7C a
  | .nopImm80 v => encodeByte 0x80 v
  | .nopImm82 v => encodeByte 0x82 v
  | .nopImm89 v => encodeByte 0x89 v
  | .nopImmC2 v => encodeByte 0xC2 v
  | .nopZpxD4 z => encodeByte 0xD4 z
  | .nopImpDA => [0xDA]
  | .nopAbxDC a => encodeWord 0xDC a
  | .nopImmE2 v => encodeByte 0xE2 v
  | .nopZpxF4 z => encodeByte 0xF4 z
  | .nopImpFA => [0xFA]
  | .nopAbxFC a => encodeWord 0xFC a
  -- Stub opcodes (43_undocumented.md section 5)
  | .jam02 => [0x02]
  | .jam12 => [0x12]
  | .jam22 => [0x22]
  | .jam32 => [0x32]
  | .jam42 => [0x42]
  | .jam52 => [0x52]
  | .jam62 => [0x62]
  | .jam72 => [0x72]
  | .jam92 => [0x92]
  | .jamB2 => [0xB2]
  | .jamD2 => [0xD2]
  | .jamF2 => [0xF2]
  | .aneImm => [0x8B]
  | .lxaImm => [0xAB]
  | .shaIzy => [0x93]
  | .shaAby => [0x9F]
  | .shxAby => [0x9E]
  | .shyAbx => [0x9C]
  | .tasAby => [0x9B]
  | .lasAby => [0xBB]

/-- A row of spec/opcode_table.json as data: mnemonic, mode, the operand form with its operand, base cycles
(none for a stub), whether R103's penalty applies, class. The meanings do not use it; statements that speak
of "every row with this mnemonic" do. -/
structure Row where
  mnemonic : Mnemonic
  mode : Mode
  form : Form
  cycles : Option Nat
  penalty : Bool
  cls : OpClass
  deriving DecidableEq, Repr

/-- A row whose operand form is given, documented. -/
def Row.doc (m : Mnemonic) (mode : Mode) (f : Form) (cycles : Nat) (penalty : Bool) : Row :=
  { mnemonic := m, mode := mode, form := f, cycles := some cycles, penalty := penalty, cls := .documented }

/-- An implemented undocumented row. -/
def Row.undoc (m : Mnemonic) (mode : Mode) (f : Form) (cycles : Nat) (penalty : Bool) : Row :=
  { mnemonic := m, mode := mode, form := f, cycles := some cycles, penalty := penalty, cls := .implemented }

/-- An undocumented no-op row. -/
def Row.hint (mode : Mode) (f : Form) (cycles : Nat) (penalty : Bool) : Row :=
  { mnemonic := .NOP, mode := mode, form := f, cycles := some cycles, penalty := penalty, cls := .hint }

/-- A stub row: no operand is fetched and there is no cycle count (R106, R260). -/
def Row.stub (m : Mnemonic) (mode : Mode) : Row :=
  { mnemonic := m, mode := mode, form := .imp, cycles := none, penalty := false, cls := .stub }

/-- The table row of an instruction. -/
def Instr.row : Instr → Row
  -- Loads, stores, transfers and stack (40_load_store_transfer.md)
  | .ldaIzx z => .doc .LDA .izx (.data (.mem (.izx z))) 6 false
  | .ldaZp z => .doc .LDA .zp (.data (.mem (.zp z))) 3 false
  | .ldaImm v => .doc .LDA .imm (.data (.imm v)) 2 false
  | .ldaAbs a => .doc .LDA .abs (.data (.mem (.abs a))) 4 false
  | .ldaIzy z => .doc .LDA .izy (.data (.mem (.izy z))) 5 true
  | .ldaZpx z => .doc .LDA .zpx (.data (.mem (.zpx z))) 4 false
  | .ldaAby a => .doc .LDA .aby (.data (.mem (.aby a))) 4 true
  | .ldaAbx a => .doc .LDA .abx (.data (.mem (.abx a))) 4 true
  | .ldxImm v => .doc .LDX .imm (.data (.imm v)) 2 false
  | .ldxZp z => .doc .LDX .zp (.data (.mem (.zp z))) 3 false
  | .ldxAbs a => .doc .LDX .abs (.data (.mem (.abs a))) 4 false
  | .ldxZpy z => .doc .LDX .zpy (.data (.mem (.zpy z))) 4 false
  | .ldxAby a => .doc .LDX .aby (.data (.mem (.aby a))) 4 true
  | .ldyImm v => .doc .LDY .imm (.data (.imm v)) 2 false
  | .ldyZp z => .doc .LDY .zp (.data (.mem (.zp z))) 3 false
  | .ldyAbs a => .doc .LDY .abs (.data (.mem (.abs a))) 4 false
  | .ldyZpx z => .doc .LDY .zpx (.data (.mem (.zpx z))) 4 false
  | .ldyAbx a => .doc .LDY .abx (.data (.mem (.abx a))) 4 true
  | .staIzx z => .doc .STA .izx (.data (.mem (.izx z))) 6 false
  | .staZp z => .doc .STA .zp (.data (.mem (.zp z))) 3 false
  | .staAbs a => .doc .STA .abs (.data (.mem (.abs a))) 4 false
  | .staIzy z => .doc .STA .izy (.data (.mem (.izy z))) 6 false
  | .staZpx z => .doc .STA .zpx (.data (.mem (.zpx z))) 4 false
  | .staAby a => .doc .STA .aby (.data (.mem (.aby a))) 5 false
  | .staAbx a => .doc .STA .abx (.data (.mem (.abx a))) 5 false
  | .stxZp z => .doc .STX .zp (.data (.mem (.zp z))) 3 false
  | .stxAbs a => .doc .STX .abs (.data (.mem (.abs a))) 4 false
  | .stxZpy z => .doc .STX .zpy (.data (.mem (.zpy z))) 4 false
  | .styZp z => .doc .STY .zp (.data (.mem (.zp z))) 3 false
  | .styAbs a => .doc .STY .abs (.data (.mem (.abs a))) 4 false
  | .styZpx z => .doc .STY .zpx (.data (.mem (.zpx z))) 4 false
  | .tax => .doc .TAX .imp .imp 2 false
  | .tay => .doc .TAY .imp .imp 2 false
  | .txa => .doc .TXA .imp .imp 2 false
  | .tya => .doc .TYA .imp .imp 2 false
  | .tsx => .doc .TSX .imp .imp 2 false
  | .txs => .doc .TXS .imp .imp 2 false
  | .pha => .doc .PHA .imp .imp 3 false
  | .php => .doc .PHP .imp .imp 3 false
  | .pla => .doc .PLA .imp .imp 4 false
  | .plp => .doc .PLP .imp .imp 4 false
  -- Arithmetic, logic, compare, increment and shift (41_arithmetic_logic.md)
  | .adcIzx z => .doc .ADC .izx (.data (.mem (.izx z))) 6 false
  | .adcZp z => .doc .ADC .zp (.data (.mem (.zp z))) 3 false
  | .adcImm v => .doc .ADC .imm (.data (.imm v)) 2 false
  | .adcAbs a => .doc .ADC .abs (.data (.mem (.abs a))) 4 false
  | .adcIzy z => .doc .ADC .izy (.data (.mem (.izy z))) 5 true
  | .adcZpx z => .doc .ADC .zpx (.data (.mem (.zpx z))) 4 false
  | .adcAby a => .doc .ADC .aby (.data (.mem (.aby a))) 4 true
  | .adcAbx a => .doc .ADC .abx (.data (.mem (.abx a))) 4 true
  | .sbcIzx z => .doc .SBC .izx (.data (.mem (.izx z))) 6 false
  | .sbcZp z => .doc .SBC .zp (.data (.mem (.zp z))) 3 false
  | .sbcImm v => .doc .SBC .imm (.data (.imm v)) 2 false
  | .sbcAbs a => .doc .SBC .abs (.data (.mem (.abs a))) 4 false
  | .sbcIzy z => .doc .SBC .izy (.data (.mem (.izy z))) 5 true
  | .sbcZpx z => .doc .SBC .zpx (.data (.mem (.zpx z))) 4 false
  | .sbcAby a => .doc .SBC .aby (.data (.mem (.aby a))) 4 true
  | .sbcAbx a => .doc .SBC .abx (.data (.mem (.abx a))) 4 true
  | .andIzx z => .doc .AND .izx (.data (.mem (.izx z))) 6 false
  | .andZp z => .doc .AND .zp (.data (.mem (.zp z))) 3 false
  | .andImm v => .doc .AND .imm (.data (.imm v)) 2 false
  | .andAbs a => .doc .AND .abs (.data (.mem (.abs a))) 4 false
  | .andIzy z => .doc .AND .izy (.data (.mem (.izy z))) 5 true
  | .andZpx z => .doc .AND .zpx (.data (.mem (.zpx z))) 4 false
  | .andAby a => .doc .AND .aby (.data (.mem (.aby a))) 4 true
  | .andAbx a => .doc .AND .abx (.data (.mem (.abx a))) 4 true
  | .oraIzx z => .doc .ORA .izx (.data (.mem (.izx z))) 6 false
  | .oraZp z => .doc .ORA .zp (.data (.mem (.zp z))) 3 false
  | .oraImm v => .doc .ORA .imm (.data (.imm v)) 2 false
  | .oraAbs a => .doc .ORA .abs (.data (.mem (.abs a))) 4 false
  | .oraIzy z => .doc .ORA .izy (.data (.mem (.izy z))) 5 true
  | .oraZpx z => .doc .ORA .zpx (.data (.mem (.zpx z))) 4 false
  | .oraAby a => .doc .ORA .aby (.data (.mem (.aby a))) 4 true
  | .oraAbx a => .doc .ORA .abx (.data (.mem (.abx a))) 4 true
  | .eorIzx z => .doc .EOR .izx (.data (.mem (.izx z))) 6 false
  | .eorZp z => .doc .EOR .zp (.data (.mem (.zp z))) 3 false
  | .eorImm v => .doc .EOR .imm (.data (.imm v)) 2 false
  | .eorAbs a => .doc .EOR .abs (.data (.mem (.abs a))) 4 false
  | .eorIzy z => .doc .EOR .izy (.data (.mem (.izy z))) 5 true
  | .eorZpx z => .doc .EOR .zpx (.data (.mem (.zpx z))) 4 false
  | .eorAby a => .doc .EOR .aby (.data (.mem (.aby a))) 4 true
  | .eorAbx a => .doc .EOR .abx (.data (.mem (.abx a))) 4 true
  | .bitZp z => .doc .BIT .zp (.data (.mem (.zp z))) 3 false
  | .bitAbs a => .doc .BIT .abs (.data (.mem (.abs a))) 4 false
  | .cmpIzx z => .doc .CMP .izx (.data (.mem (.izx z))) 6 false
  | .cmpZp z => .doc .CMP .zp (.data (.mem (.zp z))) 3 false
  | .cmpImm v => .doc .CMP .imm (.data (.imm v)) 2 false
  | .cmpAbs a => .doc .CMP .abs (.data (.mem (.abs a))) 4 false
  | .cmpIzy z => .doc .CMP .izy (.data (.mem (.izy z))) 5 true
  | .cmpZpx z => .doc .CMP .zpx (.data (.mem (.zpx z))) 4 false
  | .cmpAby a => .doc .CMP .aby (.data (.mem (.aby a))) 4 true
  | .cmpAbx a => .doc .CMP .abx (.data (.mem (.abx a))) 4 true
  | .cpxImm v => .doc .CPX .imm (.data (.imm v)) 2 false
  | .cpxZp z => .doc .CPX .zp (.data (.mem (.zp z))) 3 false
  | .cpxAbs a => .doc .CPX .abs (.data (.mem (.abs a))) 4 false
  | .cpyImm v => .doc .CPY .imm (.data (.imm v)) 2 false
  | .cpyZp z => .doc .CPY .zp (.data (.mem (.zp z))) 3 false
  | .cpyAbs a => .doc .CPY .abs (.data (.mem (.abs a))) 4 false
  | .incZp z => .doc .INC .zp (.data (.mem (.zp z))) 5 false
  | .incAbs a => .doc .INC .abs (.data (.mem (.abs a))) 6 false
  | .incZpx z => .doc .INC .zpx (.data (.mem (.zpx z))) 6 false
  | .incAbx a => .doc .INC .abx (.data (.mem (.abx a))) 7 false
  | .decZp z => .doc .DEC .zp (.data (.mem (.zp z))) 5 false
  | .decAbs a => .doc .DEC .abs (.data (.mem (.abs a))) 6 false
  | .decZpx z => .doc .DEC .zpx (.data (.mem (.zpx z))) 6 false
  | .decAbx a => .doc .DEC .abx (.data (.mem (.abx a))) 7 false
  | .inx => .doc .INX .imp .imp 2 false
  | .iny => .doc .INY .imp .imp 2 false
  | .dex => .doc .DEX .imp .imp 2 false
  | .dey => .doc .DEY .imp .imp 2 false
  | .aslZp z => .doc .ASL .zp (.data (.mem (.zp z))) 5 false
  | .aslAcc => .doc .ASL .acc (.data .acc) 2 false
  | .aslAbs a => .doc .ASL .abs (.data (.mem (.abs a))) 6 false
  | .aslZpx z => .doc .ASL .zpx (.data (.mem (.zpx z))) 6 false
  | .aslAbx a => .doc .ASL .abx (.data (.mem (.abx a))) 7 false
  | .lsrZp z => .doc .LSR .zp (.data (.mem (.zp z))) 5 false
  | .lsrAcc => .doc .LSR .acc (.data .acc) 2 false
  | .lsrAbs a => .doc .LSR .abs (.data (.mem (.abs a))) 6 false
  | .lsrZpx z => .doc .LSR .zpx (.data (.mem (.zpx z))) 6 false
  | .lsrAbx a => .doc .LSR .abx (.data (.mem (.abx a))) 7 false
  | .rolZp z => .doc .ROL .zp (.data (.mem (.zp z))) 5 false
  | .rolAcc => .doc .ROL .acc (.data .acc) 2 false
  | .rolAbs a => .doc .ROL .abs (.data (.mem (.abs a))) 6 false
  | .rolZpx z => .doc .ROL .zpx (.data (.mem (.zpx z))) 6 false
  | .rolAbx a => .doc .ROL .abx (.data (.mem (.abx a))) 7 false
  | .rorZp z => .doc .ROR .zp (.data (.mem (.zp z))) 5 false
  | .rorAcc => .doc .ROR .acc (.data .acc) 2 false
  | .rorAbs a => .doc .ROR .abs (.data (.mem (.abs a))) 6 false
  | .rorZpx z => .doc .ROR .zpx (.data (.mem (.zpx z))) 6 false
  | .rorAbx a => .doc .ROR .abx (.data (.mem (.abx a))) 7 false
  -- Jumps, calls, returns, branches, flags and NOP (42_control_flow_flags.md)
  | .jmpAbs a => .doc .JMP .abs (.data (.mem (.abs a))) 3 false
  | .jmpInd a => .doc .JMP .ind (.ind a) 5 false
  | .jsrAbs a => .doc .JSR .abs (.data (.mem (.abs a))) 6 false
  | .rts => .doc .RTS .imp .imp 6 false
  | .rti => .doc .RTI .imp .imp 6 false
  | .brk => .doc .BRK .imp .imp 7 false
  | .bpl off => .doc .BPL .rel (.rel off) 2 false
  | .bmi off => .doc .BMI .rel (.rel off) 2 false
  | .bvc off => .doc .BVC .rel (.rel off) 2 false
  | .bvs off => .doc .BVS .rel (.rel off) 2 false
  | .bcc off => .doc .BCC .rel (.rel off) 2 false
  | .bcs off => .doc .BCS .rel (.rel off) 2 false
  | .bne off => .doc .BNE .rel (.rel off) 2 false
  | .beq off => .doc .BEQ .rel (.rel off) 2 false
  | .clc => .doc .CLC .imp .imp 2 false
  | .sec => .doc .SEC .imp .imp 2 false
  | .cli => .doc .CLI .imp .imp 2 false
  | .sei => .doc .SEI .imp .imp 2 false
  | .clv => .doc .CLV .imp .imp 2 false
  | .cld => .doc .CLD .imp .imp 2 false
  | .sed => .doc .SED .imp .imp 2 false
  | .nop => .doc .NOP .imp .imp 2 false
  -- Undocumented combined operations and no-ops (43_undocumented.md)
  | .sloIzx z => .undoc .SLO .izx (.data (.mem (.izx z))) 8 false
  | .sloZp z => .undoc .SLO .zp (.data (.mem (.zp z))) 5 false
  | .sloAbs a => .undoc .SLO .abs (.data (.mem (.abs a))) 6 false
  | .sloIzy z => .undoc .SLO .izy (.data (.mem (.izy z))) 8 false
  | .sloZpx z => .undoc .SLO .zpx (.data (.mem (.zpx z))) 6 false
  | .sloAby a => .undoc .SLO .aby (.data (.mem (.aby a))) 7 false
  | .sloAbx a => .undoc .SLO .abx (.data (.mem (.abx a))) 7 false
  | .rlaIzx z => .undoc .RLA .izx (.data (.mem (.izx z))) 8 false
  | .rlaZp z => .undoc .RLA .zp (.data (.mem (.zp z))) 5 false
  | .rlaAbs a => .undoc .RLA .abs (.data (.mem (.abs a))) 6 false
  | .rlaIzy z => .undoc .RLA .izy (.data (.mem (.izy z))) 8 false
  | .rlaZpx z => .undoc .RLA .zpx (.data (.mem (.zpx z))) 6 false
  | .rlaAby a => .undoc .RLA .aby (.data (.mem (.aby a))) 7 false
  | .rlaAbx a => .undoc .RLA .abx (.data (.mem (.abx a))) 7 false
  | .sreIzx z => .undoc .SRE .izx (.data (.mem (.izx z))) 8 false
  | .sreZp z => .undoc .SRE .zp (.data (.mem (.zp z))) 5 false
  | .sreAbs a => .undoc .SRE .abs (.data (.mem (.abs a))) 6 false
  | .sreIzy z => .undoc .SRE .izy (.data (.mem (.izy z))) 8 false
  | .sreZpx z => .undoc .SRE .zpx (.data (.mem (.zpx z))) 6 false
  | .sreAby a => .undoc .SRE .aby (.data (.mem (.aby a))) 7 false
  | .sreAbx a => .undoc .SRE .abx (.data (.mem (.abx a))) 7 false
  | .rraIzx z => .undoc .RRA .izx (.data (.mem (.izx z))) 8 false
  | .rraZp z => .undoc .RRA .zp (.data (.mem (.zp z))) 5 false
  | .rraAbs a => .undoc .RRA .abs (.data (.mem (.abs a))) 6 false
  | .rraIzy z => .undoc .RRA .izy (.data (.mem (.izy z))) 8 false
  | .rraZpx z => .undoc .RRA .zpx (.data (.mem (.zpx z))) 6 false
  | .rraAby a => .undoc .RRA .aby (.data (.mem (.aby a))) 7 false
  | .rraAbx a => .undoc .RRA .abx (.data (.mem (.abx a))) 7 false
  | .dcpIzx z => .undoc .DCP .izx (.data (.mem (.izx z))) 8 false
  | .dcpZp z => .undoc .DCP .zp (.data (.mem (.zp z))) 5 false
  | .dcpAbs a => .undoc .DCP .abs (.data (.mem (.abs a))) 6 false
  | .dcpIzy z => .undoc .DCP .izy (.data (.mem (.izy z))) 8 false
  | .dcpZpx z => .undoc .DCP .zpx (.data (.mem (.zpx z))) 6 false
  | .dcpAby a => .undoc .DCP .aby (.data (.mem (.aby a))) 7 false
  | .dcpAbx a => .undoc .DCP .abx (.data (.mem (.abx a))) 7 false
  | .iscIzx z => .undoc .ISC .izx (.data (.mem (.izx z))) 8 false
  | .iscZp z => .undoc .ISC .zp (.data (.mem (.zp z))) 5 false
  | .iscAbs a => .undoc .ISC .abs (.data (.mem (.abs a))) 6 false
  | .iscIzy z => .undoc .ISC .izy (.data (.mem (.izy z))) 8 false
  | .iscZpx z => .undoc .ISC .zpx (.data (.mem (.zpx z))) 6 false
  | .iscAby a => .undoc .ISC .aby (.data (.mem (.aby a))) 7 false
  | .iscAbx a => .undoc .ISC .abx (.data (.mem (.abx a))) 7 false
  | .saxIzx z => .undoc .SAX .izx (.data (.mem (.izx z))) 6 false
  | .saxZp z => .undoc .SAX .zp (.data (.mem (.zp z))) 3 false
  | .saxAbs a => .undoc .SAX .abs (.data (.mem (.abs a))) 4 false
  | .saxZpy z => .undoc .SAX .zpy (.data (.mem (.zpy z))) 4 false
  | .laxIzx z => .undoc .LAX .izx (.data (.mem (.izx z))) 6 false
  | .laxZp z => .undoc .LAX .zp (.data (.mem (.zp z))) 3 false
  | .laxAbs a => .undoc .LAX .abs (.data (.mem (.abs a))) 4 false
  | .laxIzy z => .undoc .LAX .izy (.data (.mem (.izy z))) 5 true
  | .laxZpy z => .undoc .LAX .zpy (.data (.mem (.zpy z))) 4 false
  | .laxAby a => .undoc .LAX .aby (.data (.mem (.aby a))) 4 true
  | .ancImm0B v => .undoc .ANC .imm (.data (.imm v)) 2 false
  | .ancImm2B v => .undoc .ANC .imm (.data (.imm v)) 2 false
  | .alrImm v => .undoc .ALR .imm (.data (.imm v)) 2 false
  | .arrImm v => .undoc .ARR .imm (.data (.imm v)) 2 false
  | .sbxImm v => .undoc .SBX .imm (.data (.imm v)) 2 false
  | .sbcImmEB v => .undoc .SBC .imm (.data (.imm v)) 2 false
  | .nopZp04 z => .hint .zp (.data (.mem (.zp z))) 3 false
  | .nopAbs0C a => .hint .abs (.data (.mem (.abs a))) 4 false
  | .nopZpx14 z => .hint .zpx (.data (.mem (.zpx z))) 4 false
  | .nopImp1A => .hint .imp .imp 2 false
  | .nopAbx1C a => .hint .abx (.data (.mem (.abx a))) 4 true
  | .nopZpx34 z => .hint .zpx (.data (.mem (.zpx z))) 4 false
  | .nopImp3A => .hint .imp .imp 2 false
  | .nopAbx3C a => .hint .abx (.data (.mem (.abx a))) 4 true
  | .nopZp44 z => .hint .zp (.data (.mem (.zp z))) 3 false
  | .nopZpx54 z => .hint .zpx (.data (.mem (.zpx z))) 4 false
  | .nopImp5A => .hint .imp .imp 2 false
  | .nopAbx5C a => .hint .abx (.data (.mem (.abx a))) 4 true
  | .nopZp64 z => .hint .zp (.data (.mem (.zp z))) 3 false
  | .nopZpx74 z => .hint .zpx (.data (.mem (.zpx z))) 4 false
  | .nopImp7A => .hint .imp .imp 2 false
  | .nopAbx7C a => .hint .abx (.data (.mem (.abx a))) 4 true
  | .nopImm80 v => .hint .imm (.data (.imm v)) 2 false
  | .nopImm82 v => .hint .imm (.data (.imm v)) 2 false
  | .nopImm89 v => .hint .imm (.data (.imm v)) 2 false
  | .nopImmC2 v => .hint .imm (.data (.imm v)) 2 false
  | .nopZpxD4 z => .hint .zpx (.data (.mem (.zpx z))) 4 false
  | .nopImpDA => .hint .imp .imp 2 false
  | .nopAbxDC a => .hint .abx (.data (.mem (.abx a))) 4 true
  | .nopImmE2 v => .hint .imm (.data (.imm v)) 2 false
  | .nopZpxF4 z => .hint .zpx (.data (.mem (.zpx z))) 4 false
  | .nopImpFA => .hint .imp .imp 2 false
  | .nopAbxFC a => .hint .abx (.data (.mem (.abx a))) 4 true
  -- Stub opcodes (43_undocumented.md section 5)
  | .jam02 => .stub .JAM .imp
  | .jam12 => .stub .JAM .imp
  | .jam22 => .stub .JAM .imp
  | .jam32 => .stub .JAM .imp
  | .jam42 => .stub .JAM .imp
  | .jam52 => .stub .JAM .imp
  | .jam62 => .stub .JAM .imp
  | .jam72 => .stub .JAM .imp
  | .jam92 => .stub .JAM .imp
  | .jamB2 => .stub .JAM .imp
  | .jamD2 => .stub .JAM .imp
  | .jamF2 => .stub .JAM .imp
  | .aneImm => .stub .ANE .imm
  | .lxaImm => .stub .LXA .imm
  | .shaIzy => .stub .SHA .izy
  | .shaAby => .stub .SHA .aby
  | .shxAby => .stub .SHX .aby
  | .shyAbx => .stub .SHY .abx
  | .tasAby => .stub .TAS .aby
  | .lasAby => .stub .LAS .aby

/-- The three bytes of a table word: bits 7..0 are the first byte, 15..8 the second, 23..16 the third;
bits from `nbits` up are 0. -/
def tableBytes (nbits w : Nat) : List Byte :=
  let k := w % 2 ^ nbits
  [BitVec.ofNat 8 k, BitVec.ofNat 8 (k / 256), BitVec.ofNat 8 (k / 65536)]

/-- The instruction the decoder reads from a word of spec/opcode_table.json. -/
def decodeTableWord (nbits w : Nat) : Option Instr :=
  match decode (tableBytes nbits w) with
  | .ok (i, _) => some i
  | .error _ => none

end Sys2Proof
end

