-- ==== Sys2Proof/Config.lean ====
section
/-! DEFINITION. What is fixed for the machine (spec/00_scope.md section 4): the named constants, the
launch parameters left open by spec/92_eei_decisions.md, and the free values. -/

namespace Sys2Proof

namespace Config

/-- `VEC_NMI` (R453). -/
def vecNmi : Nat := 0xFFFA
/-- `VEC_RESET` (R453). -/
def vecReset : Nat := 0xFFFC
/-- `VEC_IRQ`, also the vector of `BRK` (R453, R196). -/
def vecIrq : Nat := 0xFFFE
/-- First address of `STACK_PAGE` (R11, R55). -/
def stackBase : Nat := 0x0100
/-- `RESET_SP` (R38). -/
def resetSp : Byte := 0xFD
/-- `INT_CYCLES`, the cost of an interrupt entry (R450, R482). -/
def intCycles : Nat := 7
/-- `DISK_IMAGE_MAX` (00_scope.md section 4, R383). -/
def diskImageMax : Nat := 65500 * 8

/-- The byte drawn by the k-th read of a write-only or unassigned register: R284, R344 and R394 say
"any byte", and 93_implementation_defined.md I6 that it may differ at each read. A free value
(log 5): it has no body a proof could see. -/
opaque freeByte : Nat → Byte

end Config

/-- The launch parameters that 92_eei_decisions.md leaves open (R426). They are fixed for a run:
no rule changes one. The defaults are the spec's (log 9). -/
structure Params where
  /-- `JMP_IND_PAGE_WRAP` (R93). -/
  jmpIndPageWrap : Bool := true
  /-- `APU_FRAME_DIVIDER` (R350). -/
  apuFrameDivider : Nat := 7457
  /-- `FIXED_CLOCK` in Hz (R360). -/
  fixedClock : Nat := 1789773
  /-- `DISK_PRESENT` (R380). -/
  diskPresent : Bool := false
  /-- `DISK_IMAGE`, the flat byte stream (R383). -/
  diskImage : List Byte := []
  /-- Whether the loader found the optional 16-byte header (R383). -/
  diskHeader : Bool := false
  /-- `DISK_CRC_IN_IMAGE` (R399). -/
  diskCrcInImage : Bool := false
  /-- `DISK_BYTE_CYCLES` (R395, R397). -/
  diskByteCycles : Nat := 149
  deriving DecidableEq, Repr

/-- `START`: the first byte of the disk stream is 16 past the beginning when the header is there (R383). -/
def Params.diskStart (p : Params) : Nat := if p.diskHeader then 16 else 0

/-- The configurations a launch accepts. With the Disk System present the stream must not be empty
(93_implementation_defined.md I25: "a model must refuse an empty stream") nor over `DISK_IMAGE_MAX` (R383). -/
def Params.accepted (p : Params) : Bool :=
  !p.diskPresent || (p.diskStart < p.diskImage.length && p.diskImage.length ≤ Config.diskImageMax)

end Sys2Proof
end

