-- ==== Sys2Proof/Machine/State.lean ====
section
/-! DEFINITION. The state of the whole machine as plain data (spec/10_state.md), what can stop it, and
the state right after reset. Every field cites the rule that gives it to the machine. -/

namespace Sys2Proof.Machine

/-- A memory: (address, byte) pairs in the canonical form `memoryWf` of Machine/Memory.lean. An
address that is not listed reads as `blankByte`. -/
abbrev Memory := List Host.Cell

/-- The terminal conditions and the information each records (R19, R441). -/
inductive Fatal where
  /-- Bus access to a register window with no installed handler (R50). -/
  | noHandler (addr : Word)
  /-- A stub opcode the trap hook declined, with the address it was fetched from (R260). -/
  | noOpcodeHandler (op : Byte) (addr : Word)
  /-- A data-port access with a VRAM address outside the legal 14-bit window (R287). -/
  | vramRange (vaddr : BitVec 15)
  deriving DecidableEq, Repr

/-- The mirroring mode flag (R25, R288). -/
inductive Mirroring where
  | horizontal
  | vertical
  deriving DecidableEq, Repr

/-- The pixel processor (R23 to R26). -/
structure Ppu where
  /-- Control register, fields in R271. -/
  ctrl : Byte
  /-- Mask register, fields in R272. -/
  mask : Byte
  /-- Status register, fields in R273. -/
  status : Byte
  /-- OAM address register (R274). -/
  oamAddr : Byte
  /-- VRAM address register, 15 bits (R277). -/
  vaddr : BitVec 15
  /-- Two-write latch; `false`: the next write is the first of a pair (R276, R277). -/
  wlatch : Bool
  /-- Data-port read buffer (R278). -/
  rbuf : Byte
  /-- Open-bus shadow (R283). -/
  obus : BitVec 5
  /-- Horizontal scroll (R276, R303). -/
  scrollX : Byte
  /-- Vertical scroll, stored and used by nothing (R276). -/
  scrollY : Byte
  /-- Active-nametable selector (R271, R296). -/
  ntSel : BitVec 2
  /-- Sprite attribute memory, cells 0..255 (R23). -/
  oam : Memory
  /-- Pattern tables, cells 0..8191 (R25). -/
  pat : Memory
  /-- Physical nametable bank 0, cells 0..1023 (R25). -/
  nt0 : Memory
  /-- Physical nametable bank 1, cells 0..1023 (R25). -/
  nt1 : Memory
  /-- Palette RAM, cells 0..31 (R25, R289). -/
  pal : Memory
  /-- Mirroring mode (R25, R288). -/
  mirror : Mirroring
  /-- Dot counter, 0..340 (R26). -/
  dot : Nat
  /-- Scanline counter, -1..260 (R26). -/
  scanline : Int
  /-- Frame number (R26). -/
  frame : Nat
  deriving DecidableEq, Repr

/-- A pulse generator (R27). -/
structure Pulse where
  duty : BitVec 2
  halt : Bool
  cvol : Bool
  vol : BitVec 4
  swEn : Bool
  swPeriod : BitVec 3
  swNeg : Bool
  swShift : BitVec 3
  swReload : Bool
  swDiv : BitVec 3
  timer : BitVec 11
  len : Byte
  envStart : Bool
  envDiv : BitVec 4
  envDecay : BitVec 4
  enabled : Bool
  deriving DecidableEq, Repr

/-- The triangle generator (R28). -/
structure Triangle where
  ctrl : Bool
  linLoad : BitVec 7
  timer : BitVec 11
  len : Byte
  lin : BitVec 7
  linReload : Bool
  enabled : Bool
  deriving DecidableEq, Repr

/-- The noise generator (R29). -/
structure Noise where
  halt : Bool
  cvol : Bool
  vol : BitVec 4
  mode : Bool
  period : BitVec 4
  len : Byte
  envStart : Bool
  envDiv : BitVec 4
  envDecay : BitVec 4
  enabled : Bool
  deriving DecidableEq, Repr

/-- The audio processor: four generators and the frame sequencer (R27 to R30). -/
structure Apu where
  p1 : Pulse
  p2 : Pulse
  tri : Triangle
  noi : Noise
  fsDiv : Nat
  fsStep : Nat
  /-- `false`: 4-step, `true`: 5-step (R30). -/
  fsMode : Bool
  deriving DecidableEq, Repr

/-- The controller ports (R31). -/
structure Controllers where
  strobe : Bool
  shift0 : Byte
  shift1 : Byte
  deriving DecidableEq, Repr

/-- The eight states of the block decoder (R32, R398). -/
inductive BlockState where
  | block1
  | block1Crc
  | block2
  | block2Crc
  | block3
  | block3Crc
  | block4
  | block4Crc
  deriving DecidableEq, Repr

/-- One entry of the per-file metadata table (R32, R400). -/
structure DiskFile where
  id : Byte
  name : Vector Byte 8
  address : Word
  size : Word
  type : Byte
  deriving DecidableEq, Repr

/-- The disk system (R32, R33) and its two request flags (R18). -/
structure Disk where
  /-- 6 KiB of private RAM that no rule reads or writes (R403). -/
  ram : Memory
  state : BlockState
  index : Nat
  count : Nat
  fileTotal : Nat
  fileCur : Nat
  files : List DiskFile
  /-- `dsk_xfer_flag` (R18). -/
  xferFlag : Bool
  /-- `dsk_timer_flag` (R18). -/
  timerFlag : Bool
  /-- Control register, fields in R388. -/
  ctrl : Byte
  ioEn : Byte
  ext : Byte
  data : Byte
  latency : Nat
  tReload : Word
  tCounter : Word
  tRepeat : Bool
  tEnable : Bool
  deriving DecidableEq, Repr

/-- The third member of a channel's output triple (R360). -/
inductive Shape where
  | duty (d : BitVec 2)
  | plain
  | mode (m : Bool)
  deriving DecidableEq, Repr

/-- A channel's output triple: exact frequency in Hz, volume 0..15, shape (R360). -/
structure Tone where
  freq : Rat
  vol : BitVec 4
  shape : Shape
  deriving DecidableEq, Repr

/-- The output events (R316, R366). -/
inductive OutEvent where
  /-- 256 colour values of scanline `s`. -/
  | lineOut (s : Nat) (line : List Byte)
  | audioOut (pulse1 pulse2 triangle noise : Tone)
  deriving DecidableEq, Repr

/-- What the host may do between two iterations (R427, R454; log 6). -/
inductive HostAct where
  /-- Nothing. -/
  | idle
  /-- Set the two controller bytes (R370). -/
  | buttons (b0 b1 : Byte)
  /-- Apply CPU reset (R454). -/
  | reset
  deriving DecidableEq, Repr

end Sys2Proof.Machine

namespace Sys2Proof.Machine

/-- The whole machine (spec/10_state.md). The last six fields are the model's own: the launch
parameters, the host's inputs, the output trace and the count of free bytes drawn. -/
structure State where
  /-- Accumulator (R10). -/
  a : Byte
  /-- Index X (R10). -/
  x : Byte
  /-- Index Y (R10). -/
  y : Byte
  /-- Stack pointer `S` (R11). -/
  sp : Byte
  /-- Program counter (R12). -/
  pc : Word
  /-- Negative (R13). -/
  n : Bool
  /-- Overflow (R13). -/
  v : Bool
  /-- Break: a field that no rule sets (R15). -/
  b : Bool
  /-- Decimal: stored, without effect on arithmetic (R17). -/
  d : Bool
  /-- Interrupt disable (R13). -/
  i : Bool
  /-- Zero (R13). -/
  z : Bool
  /-- Carry (R13). -/
  c : Bool
  /-- Cycle counter (R16). -/
  cyc : Nat
  /-- Frame-end interrupt request (R18). -/
  nmiReq : Bool
  /-- Fatal latch (R19). -/
  fatal : Option Fatal
  /-- Working RAM, cells 0..2047 (R20). -/
  ram : Memory
  /-- Cartridge space, cells $4200..$FFFF (R21). -/
  cart : Memory
  /-- Pixel-window hook installed (R22). -/
  ppuHook : Bool
  /-- I/O-window hook installed (R22). -/
  ioHook : Bool
  /-- Pixel processor (R23 to R26). -/
  ppu : Ppu
  /-- Audio processor (R27 to R30). -/
  apu : Apu
  /-- Controller ports (R31). -/
  ctl : Controllers
  /-- Disk system (R32, R33). -/
  dsk : Disk
  /-- Launch parameters, fixed for the run (R426; log 9). -/
  cfg : Params
  /-- Host input: controller byte 0 (R370). -/
  buttons0 : Byte
  /-- Host input: controller byte 1 (R370). -/
  buttons1 : Byte
  /-- Host acts to come, oldest first; each step takes one (log 6). -/
  pending : List HostAct
  /-- Output events, newest first (R427; log 7). -/
  out : List OutEvent
  /-- Free bytes drawn so far (log 5). -/
  freeReads : Nat
  deriving DecidableEq, Repr

/-- Why a step ends in a fault. -/
inductive Fault where
  /-- A fatal condition raised in this step: a bus access to an unhooked window, a stub opcode, or a
  data-port access out of range (R441). `stopped` is the state the machine stops in, with the latch
  set and every effect before the raise kept (R433). The spec's own stop, so safe. -/
  | fatal (cause : Fatal) (stopped : State)
  /-- A step from a state whose latch is already set: no later iteration changes the state (R433).
  Raised by `step` alone; the spec's own stop, so safe. -/
  | halted (cause : Fatal) (stopped : State)
  deriving DecidableEq, Repr

/-- Why a step is refused. -/
inductive Refusal where
  /-- An instruction that has no meaning yet; raised by no arm of `exec` now. Safe. -/
  | notModelled (mnemonic : String)
  /-- The launch parameters are not accepted: the disk stream is empty or too long
  (93_implementation_defined.md I25, R383). Raised by `step` alone. Safe. -/
  | badConfiguration
  deriving DecidableEq, Repr

/-- A pulse generator at power-on (R39). -/
def Pulse.powerOn : Pulse :=
  { duty := 0, halt := false, cvol := false, vol := 0, swEn := false, swPeriod := 0, swNeg := false,
    swShift := 0, swReload := false, swDiv := 0, timer := 0, len := 0, envStart := false, envDiv := 0,
    envDecay := 0, enabled := false }

/-- The pixel processor at power-on (R39); `MIRRORING_INIT` is horizontal with no cartridge (log 4). -/
def Ppu.powerOn : Ppu :=
  { ctrl := 0, mask := 0, status := 0, oamAddr := 0, vaddr := 0, wlatch := false, rbuf := 0, obus := 0,
    scrollX := 0, scrollY := 0, ntSel := 0, oam := [], pat := [], nt0 := [], nt1 := [], pal := [],
    mirror := .horizontal, dot := 0, scanline := -1, frame := 0 }

/-- The audio processor at power-on (R39). -/
def Apu.powerOn : Apu :=
  { p1 := Pulse.powerOn, p2 := Pulse.powerOn,
    tri := { ctrl := false, linLoad := 0, timer := 0, len := 0, lin := 0, linReload := false, enabled := false },
    noi := { halt := false, cvol := false, vol := 0, mode := false, period := 0, len := 0, envStart := false,
             envDiv := 0, envDecay := 0, enabled := false },
    fsDiv := 0, fsStep := 0, fsMode := false }

/-- The disk system at power-on (R39). -/
def Disk.powerOn : Disk :=
  { ram := [], state := .block1, index := 0, count := 0, fileTotal := 0, fileCur := 0, files := [],
    xferFlag := false, timerFlag := false, ctrl := 0, ioEn := 0, ext := 0, data := 0, latency := 0,
    tReload := 0, tCounter := 0, tRepeat := false, tEnable := false }

/-- The machine right after power-on and CPU reset, with no cartridge and the default parameters
(R38, R39, R470). The reset vector is read from cartridge cells no loader wrote, so `pc` is 0 (log 2). -/
def State.reset : State :=
  { a := 0, x := 0, y := 0, sp := Config.resetSp, pc := 0,
    n := false, v := false, b := false, d := false, i := true, z := false, c := false,
    cyc := 0, nmiReq := false, fatal := none, ram := [], cart := [], ppuHook := true, ioHook := true,
    ppu := Ppu.powerOn, apu := Apu.powerOn,
    ctl := { strobe := false, shift0 := 0, shift1 := 0 }, dsk := Disk.powerOn,
    cfg := {}, buttons0 := 0, buttons1 := 0, pending := [], out := [], freeReads := 0 }

end Sys2Proof.Machine
end

