-- ==== Sys2Proof/Machine/Memory.lean ====
section
/-! DEFINITION. Reading and writing one cell of a memory, its canonical form, and filling one from a list of
bytes. RAM, cartridge space, OAM, pattern tables, nametable banks, palette and the disk unit's private RAM
are all memories of this kind (R20, R21, R23, R25, R32). -/

namespace Sys2Proof.Machine

/-- What a cell that is not listed holds. For OAM, nametables, palette, pattern tables and disk RAM the spec
gives 0 (R39); for RAM and unloaded cartridge cells, which the spec leaves unconstrained, 0 is the model's
choice (logs 1 and 2). -/
def blankByte : Byte := 0

/-- The byte of cell `k`. -/
def readCell : Memory → Nat → Byte
  | [], _ => blankByte
  | (j, w) :: m, k => if k = j then w else if k < j then blankByte else readCell m k

/-- Put a cell in front, unless it holds what an unlisted one reads as. -/
def consCell (k : Nat) (w : Byte) (m : Memory) : Memory :=
  if w = blankByte then m else (k, w) :: m

/-- Store `w` in cell `k`, keeping the canonical form. -/
def writeCell : Memory → Nat → Byte → Memory
  | [], k, w => consCell k w []
  | (j, u) :: m, k, w =>
    if k = j then consCell k w m
    else if k < j then consCell k w ((j, u) :: m)
    else (j, u) :: writeCell m k w

/-- Cells in strictly rising order from `lo`, all below `hi`, none holding `blankByte`. -/
def cellsWf (lo hi : Nat) : Memory → Bool
  | [] => true
  | (k, w) :: m => lo ≤ k && k < hi && w != blankByte && cellsWf (k + 1) hi m

/-- The canonical form of a memory whose cells lie in `lo ≤ k < hi`. -/
def memoryWf (lo hi : Nat) (m : Memory) : Bool := cellsWf lo hi m

/-- Store a list of bytes in consecutive cells from `k` (the loads of R56 and R57). -/
def fillCells : Memory → Nat → List Byte → Memory
  | m, _, [] => m
  | m, k, w :: ws => fillCells (writeCell m k w) (k + 1) ws

end Sys2Proof.Machine
end

