-- ==== Sys2Proof/Machine/Flags.lean ====
section
/-! DEFINITION. The status byte (R14), the flag rules of R13 and the arithmetic, comparison and shift laws of
spec/41_arithmetic_logic.md section 1 (R170 to R174). Sums are computed exactly and narrowed at the end. -/

namespace Sys2Proof.Machine

/-- `setNZ(v)`: N is bit 7, Z says the value is zero (R13, 00_scope.md section 5). -/
def setNZ (w : Byte) (s : State) : State := { s with n := w.getLsbD 7, z := w == 0 }

/-- One bit of a packed byte. -/
def bitAt (p : Bool) (k : Nat) : Nat := p.toNat * 2 ^ k

/-- `P_byte(b)`: the flags as one byte, bit 5 set, bit 4 the break bit being pushed (R14). -/
def pByte (brk : Bool) (s : State) : Byte :=
  BitVec.ofNat 8 (bitAt s.n 7 + bitAt s.v 6 + bitAt true 5 + bitAt brk 4 + bitAt s.d 3 + bitAt s.i 2
    + bitAt s.z 1 + bitAt s.c 0)

/-- `setP(v)`: bits 5 and 4 are discarded and B keeps its value (R14, R15). -/
def setP (w : Byte) (s : State) : State :=
  { s with n := w.getLsbD 7, v := w.getLsbD 6, d := w.getLsbD 3, i := w.getLsbD 2, z := w.getLsbD 1,
           c := w.getLsbD 0 }

/-- A sum with its carry out and signed overflow. -/
structure Sum where
  r : Byte
  carry : Bool
  overflow : Bool
  deriving DecidableEq, Repr

/-- `Add(a, m, c)` (R170). -/
def add8 (a m : Byte) (c : Bool) : Sum :=
  let t := a.toNat + m.toNat + c.toNat
  let r := BitVec.ofNat 8 t
  { r := r, carry := decide (t > 0xFF), overflow := ((a ^^^ r) &&& (m ^^^ r)).getLsbD 7 }

/-- `Sub(a, m, c) = Add(a, m ^ $FF, c)` (R171). -/
def sub8 (a m : Byte) (c : Bool) : Sum := add8 a (m ^^^ 0xFF) c

/-- `Cmp(r, m)`: C from the unsigned comparison, Z from equality, N from bit 7 of the difference; V is not
touched (R172). -/
def compare (r m : Byte) (s : State) : State :=
  { s with n := (r - m).getLsbD 7, z := r == m, c := decide (m.toNat ≤ r.toNat) }

/-- A shifted or counted byte with the carry after it. -/
structure Shifted where
  r : Byte
  carry : Bool
  deriving DecidableEq, Repr

/-- `Asl(v)` (R173); the carry in is not used. -/
def asl8 (w : Byte) (_ : Bool) : Shifted := { r := w <<< 1, carry := w.getLsbD 7 }

/-- `Lsr(v)` (R173); the carry in is not used. -/
def lsr8 (w : Byte) (_ : Bool) : Shifted := { r := w >>> 1, carry := w.getLsbD 0 }

/-- `Rol(v, c)` (R173). -/
def rol8 (w : Byte) (c : Bool) : Shifted := { r := (w <<< 1) ||| BitVec.ofNat 8 c.toNat, carry := w.getLsbD 7 }

/-- `Ror(v, c)` (R173). -/
def ror8 (w : Byte) (c : Bool) : Shifted :=
  { r := (w >>> 1) ||| BitVec.ofNat 8 (c.toNat * 0x80), carry := w.getLsbD 0 }

/-- Increment with wrap; the carry is left as it was (R174). -/
def inc8 (w : Byte) (c : Bool) : Shifted := { r := w + 1, carry := c }

/-- Decrement with wrap; the carry is left as it was (R174). -/
def dec8 (w : Byte) (c : Bool) : Shifted := { r := w - 1, carry := c }

/-- Put a sum in A with its four flags (R151, R152). -/
def setSum (t : Sum) (s : State) : State := setNZ t.r { s with a := t.r, c := t.carry, v := t.overflow }

end Sys2Proof.Machine
end

