-- ==== Sys2Proof/Machine/Ops.lean ====
section
/-! DEFINITION. The named operations the whole machine shares: results that keep the state at a fatal stop, free
bytes, the stack (R11), the vectors (R453), taking an interrupt (R450, R196) and returning from one (R195),
CPU reset (R38) and the stub opcodes with their trap hook (R260).

Zero page and the stack page are RAM cells and the vectors are cartridge cells whatever the state (R40, R55),
so these accesses go straight to the cell (log 12). -/

namespace Sys2Proof.Machine

/-- The result of an operation that may raise a fatal condition: a value and the state after it, or the
condition and the state it was raised in, which keeps every effect applied before the raise (R433). -/
inductive Result (α : Type) where
  | ok (val : α) (s : State)
  | stop (f : Fatal) (s : State)
  deriving DecidableEq, Repr

/-- Continue after a completed operation; a fatal condition ends everything that follows (R3, R433). -/
def Result.andThen {α β : Type} (r : Result α) (k : α → State → Result β) : Result β :=
  match r with
  | .ok w s => k w s
  | .stop f s => .stop f s

/-- Record the first fatal condition (R19, R433). -/
def latch (f : Fatal) (s : State) : State :=
  { s with fatal := match s.fatal with
      | none => some f
      | some g => some g }

/-- The outcome of an instruction: its last state, or the machine stopped with the latch set (R433). -/
def Result.outcome (r : Result Unit) : Host.Outcome State Fault Refusal :=
  match r with
  | .ok _ s => .next s
  | .stop f s => .fault (.fatal f (latch f s))

/-- Draw a free byte: a read that returns any byte (R284, R344, R394; log 5). -/
def freeRead (s : State) : Result Byte :=
  .ok (Config.freeByte s.freeReads) { s with freeReads := s.freeReads + 1 }

/-- Add an instruction's cost to the cycle counter at its end (R480). -/
def spend (cost : Nat) (s : State) : State := { s with cyc := s.cyc + cost }

/-- The RAM cell of the stack pointer `S` (R11). -/
def stackCell (sp : Byte) : Nat := Config.stackBase + sp.toNat

/-- `push(v)`: store at `$0100 + S`, then decrement S with wrap (R11). -/
def push (w : Byte) (s : State) : State :=
  { s with ram := writeCell s.ram (stackCell s.sp) w, sp := s.sp - 1 }

/-- The byte that `pull()` returns: S is incremented with wrap first (R11). -/
def pullByte (s : State) : Byte := readCell s.ram (stackCell (s.sp + 1))

/-- The state after `pull()` (R11). -/
def pulled (s : State) : State := { s with sp := s.sp + 1 }

/-- `Read16` of a vector: low byte at the lower address (R51, R453). -/
def vectorAt (k : Nat) (s : State) : Word := joinBytes (readCell s.cart (k + 1)) (readCell s.cart k)

/-- Taking an interrupt: push the return address, high byte first, push the status with the given break bit,
set I and go through the vector (R450, R196). -/
def enterInterrupt (ret : Word) (brk : Bool) (vec : Nat) (s : State) : State :=
  let s1 := push (lowByte ret) (push (highByte ret) s)
  let s2 := push (pByte brk s1) s1
  { s2 with i := true, pc := vectorAt vec s2 }

/-- `ServiceNmi`: drop the request, enter with the break bit clear, spend `INT_CYCLES` (R422, R450). -/
def serviceNmi (s : State) : State :=
  spend Config.intCycles (enterInterrupt s.pc false Config.vecNmi { s with nmiReq := false })

/-- `ServiceIrq`: nothing is cleared, the line is a level (R423, R450). -/
def serviceIrq (s : State) : State :=
  spend Config.intCycles (enterInterrupt s.pc false Config.vecIrq s)

/-- `irq_line` (R18), constantly 0 without the Disk System (R380). -/
def irqLine (s : State) : Bool :=
  s.cfg.diskPresent && (s.dsk.timerFlag || (s.dsk.xferFlag && s.dsk.ctrl.getLsbD 7))

/-- The check at the head of an iteration: NMI first, else IRQ if I is clear, at most one (R421, R449). -/
def serviceInterrupts (s : State) : State :=
  if s.nmiReq then serviceNmi s
  else if irqLine s && !s.i then serviceIrq s
  else s

/-- Software interrupt: the return address skips the padding byte, the break bit is set (R196). -/
def brkEntry (s : State) : State := enterInterrupt (s.pc + 1) true Config.vecIrq s

/-- Return from interrupt: status, then address low and high, no increment (R195). -/
def returnFromInterrupt (s : State) : State :=
  let s1 := setP (pullByte s) (pulled s)
  let s2 := pulled s1
  let s3 := pulled s2
  { s3 with pc := joinBytes (pullByte s2) (pullByte s1) }

/-- CPU reset: power-on and every later reset alike. It touches the CPU and `nmi_req` and nothing else
(R38, R454). -/
def resetCpu (s : State) : State :=
  { s with
    pc := vectorAt Config.vecReset s, a := 0, x := 0, y := 0, sp := Config.resetSp,
    n := false, v := false, b := false, d := false, z := false, c := false, i := true,
    cyc := 0, nmiReq := false }

/-- `trap_hook`: the parameter of R109 and R260 at its default, which declines every opcode (log 11). -/
def trapHook (_op : Byte) (_s : State) : Option State := none

/-- A stub opcode: offered to the trap hook, else fatal with the opcode and its address. No operand byte is
fetched and no cycle is added (R260). -/
def stub (op : Byte) (s : State) : Host.Outcome State Fault Refusal :=
  match trapHook op s with
  | some s' => .next s'
  | none => .fault (.fatal (.noOpcodeHandler op (s.pc - 1)) (latch (.noOpcodeHandler op (s.pc - 1)) s))

end Sys2Proof.Machine
end

