-- ==== Sys2Proof/Machine/Ppu.lean ====
section
/-! DEFINITION. The pixel processor (spec/44_pixel_processor.md): pixel memory, the register window, rendering
of one scanline, and the tick of the dot/scanline machine. -/

namespace Sys2Proof.Machine

-- Pixel memory (R286 to R289)

/-- The physical bank of logical nametable `L` (R288). -/
def bankOf (m : Mirroring) (L : Nat) : Nat :=
  match m with
  | .vertical => L % 2
  | .horizontal => L / 2 % 2

/-- `PalIndex(i)`: the four sprite backgrounds fold onto the background palette (R289). -/
def palIndex (i : Nat) : Nat :=
  if i = 0x10 || i = 0x14 || i = 0x18 || i = 0x1C then i - 0x10 else i

/-- A palette entry: six bits (R289). -/
def palRead (p : Ppu) (i : Nat) : Byte := readCell p.pal (palIndex i) &&& 0x3F

/-- The byte at offset `o` of logical nametable `L`: `NT(L, o)` (R304). -/
def ntRead (p : Ppu) (L o : Nat) : Byte :=
  if bankOf p.mirror L = 0 then readCell p.nt0 o else readCell p.nt1 o

/-- Store at offset `o` of logical nametable `L` (R286). -/
def ntWrite (p : Ppu) (L o : Nat) (w : Byte) : Ppu :=
  if bankOf p.mirror L = 0 then { p with nt0 := writeCell p.nt0 o w }
  else { p with nt1 := writeCell p.nt1 o w }

/-- `VRead(a)` for `a` in `$0000..$3FFF` (R286). -/
def vramRead (p : Ppu) (a : Nat) : Byte :=
  if a < 0x2000 then readCell p.pat a
  else if a < 0x3F00 then ntRead p (a / 0x400 % 4) (a % 0x400)
  else palRead p (a % 0x20)

/-- `VWrite(a, v)` for `a` in `$0000..$3FFF` (R286). -/
def vramWrite (p : Ppu) (a : Nat) (w : Byte) : Ppu :=
  if a < 0x2000 then { p with pat := writeCell p.pat a w }
  else if a < 0x3F00 then ntWrite p (a / 0x400 % 4) (a % 0x400) w
  else { p with pal := writeCell p.pal (palIndex (a % 0x20)) (w &&& 0x3F) }

-- Register window (R270 to R285)

/-- The eight registers of the window (R270). -/
inductive PpuReg where
  | control
  | mask
  | status
  | oamAddress
  | oamData
  | scroll
  | vramAddress
  | vramData
  deriving DecidableEq, Repr

/-- The register of a window address: `addr & 7` (R44, R270). -/
def ppuReg (a : Word) : PpuReg :=
  match a.toNat % 8 with
  | 0 => .control
  | 1 => .mask
  | 2 => .status
  | 3 => .oamAddress
  | 4 => .oamData
  | 5 => .scroll
  | 6 => .vramAddress
  | _ => .vramData

/-- `Inc()` (R280). -/
def vramStep (p : Ppu) : Nat := if p.ctrl.getLsbD 2 then 32 else 1

/-- The VRAM address after a data-port access, kept to 15 bits (R280). -/
def bumpVaddr (p : Ppu) : Ppu := { p with vaddr := p.vaddr + BitVec.ofNat 15 (vramStep p) }

/-- A status read: bits 7 to 5 and the open-bus shadow (R273). -/
def statusByte (p : Ppu) : Byte := (p.status &&& 0xE0) ||| p.obus.setWidth 8

/-- What a status read clears: the vertical-blank flag and the write latch (R273). -/
def statusWasRead (p : Ppu) : Ppu := { p with status := p.status &&& 0x7F, wlatch := false }

/-- Whether the data port may be used: the VRAM address is in the 14-bit window (R287). -/
def vaddrLegal (p : Ppu) : Bool := p.vaddr.toNat < 0x4000

/-- The byte a data-port read returns: the buffer, or a palette entry at once (R278). -/
def dataPortByte (p : Ppu) : Byte := if 0x3F00 ≤ p.vaddr.toNat then vramRead p p.vaddr.toNat else p.rbuf

/-- The pixel processor after a data-port read (R278). -/
def dataPortWasRead (p : Ppu) : Ppu :=
  bumpVaddr (if 0x3F00 ≤ p.vaddr.toNat then p else { p with rbuf := vramRead p p.vaddr.toNat })

/-- `PpuRegRead(r)` (R270). -/
def ppuRegRead (r : PpuReg) (s : State) : Result Byte :=
  match r with
  | .status => .ok (statusByte s.ppu) { s with ppu := statusWasRead s.ppu }
  | .oamData => .ok (readCell s.ppu.oam s.ppu.oamAddr.toNat) s
  | .vramData =>
    if vaddrLegal s.ppu then .ok (dataPortByte s.ppu) { s with ppu := dataPortWasRead s.ppu }
    else .stop (.vramRange s.ppu.vaddr) s
  | .control | .mask | .oamAddress | .scroll | .vramAddress => freeRead s

/-- The register's own rule of `PpuRegWrite(r, v)`, for the seven registers that raise nothing (R271 to R277,
R285). The data port is in `ppuRegWrite`. -/
def ppuStore (r : PpuReg) (w : Byte) (p : Ppu) : Ppu :=
  match r with
  | .control => { p with ctrl := w, ntSel := w.setWidth 2 }
  | .mask => { p with mask := w }
  | .status => p
  | .oamAddress => { p with oamAddr := w }
  | .oamData => { p with oam := writeCell p.oam p.oamAddr.toNat w, oamAddr := p.oamAddr + 1 }
  | .scroll =>
    if p.wlatch then { p with scrollY := w, wlatch := false } else { p with scrollX := w, wlatch := true }
  | .vramAddress =>
    if p.wlatch then { p with vaddr := (p.vaddr &&& 0x7F00) ||| w.setWidth 15, wlatch := false }
    else { p with vaddr := ((w.setWidth 15 &&& 0x7F) <<< 8) ||| (p.vaddr &&& 0x00FF), wlatch := true }
  | .vramData => bumpVaddr (vramWrite p p.vaddr.toNat w)

/-- `PpuRegWrite(r, v)`: the open-bus shadow first (R283), then the register's rule (R270); a data-port write
out of the window is fatal and stores nothing (R279, R287; log 13). -/
def ppuRegWrite (r : PpuReg) (w : Byte) (s : State) : Result Unit :=
  let s1 := { s with ppu := { s.ppu with obus := w.setWidth 5 } }
  if r = .vramData && !vaddrLegal s1.ppu then .stop (.vramRange s1.ppu.vaddr) s1
  else .ok () { s1 with ppu := ppuStore r w s1.ppu }

-- Rendering one scanline (R300 to R312)

/-- Background enabled (R272, R301). -/
def bgOn (p : Ppu) : Bool := p.mask.getLsbD 3

/-- Sprites enabled (R272, R301). -/
def spritesOn (p : Ppu) : Bool := p.mask.getLsbD 4

/-- A bit of a byte as 0 or 1. -/
def bitNat (w : Byte) (k : Nat) : Nat := (w.getLsbD k).toNat

/-- A pixel's 2-bit index from the two planes of a pattern row, `k` = 7 the leftmost pixel (R305). -/
def patternIndex (p : Ppu) (pa k : Nat) : Nat :=
  bitNat (readCell p.pat pa) k + 2 * bitNat (readCell p.pat (pa + 8)) k

/-- A background pixel: its 2-bit index and its colour. -/
structure BgPixel where
  idx : Nat
  colour : Byte
  deriving DecidableEq, Repr

/-- Horizontal position in the strip that is two tables wide (R303). -/
def bgPosition (p : Ppu) (x : Nat) : Nat := (p.ntSel.toNat % 2 * 256 + p.scrollX.toNat + x) % 512

/-- Logical nametable of a background sample (R303). -/
def bgTable (p : Ppu) (x : Nat) : Nat :=
  p.ntSel.toNat / 2 * 2 + (if 256 ≤ bgPosition p x then 1 else 0)

/-- Tile column of a background sample (R303). -/
def bgColumn (p : Ppu) (x : Nat) : Nat := bgPosition p x % 256 / 8

/-- Tile index of a background sample (R304). -/
def bgTile (p : Ppu) (s x : Nat) : Byte := ntRead p (bgTable p x) (s / 8 * 32 + bgColumn p x)

/-- Attribute group of a background sample (R304). -/
def bgGroup (p : Ppu) (s x : Nat) : Nat :=
  let row := s / 8
  let col := bgColumn p x
  let ab := ntRead p (bgTable p x) (0x3C0 + row / 4 * 8 + col / 4)
  let shift := row / 2 % 2 * 4 + col / 2 % 2 * 2
  ab.toNat / 2 ^ shift % 4

/-- `Background(s, x)` (R301, R303 to R306). -/
def background (p : Ppu) (s x : Nat) : BgPixel :=
  if bgOn p then
    let pa := bitNat p.ctrl 4 * 0x1000 + (bgTile p s x).toNat * 16 + s % 8
    let idx := patternIndex p pa (7 - bgPosition p x % 8)
    { idx := idx, colour := if idx = 0 then palRead p 0 else palRead p (bgGroup p s x * 4 + idx) }
  else { idx := 0, colour := palRead p 0 }

/-- Byte `k` of sprite `i` (R307). -/
def spriteByte (p : Ppu) (i k : Nat) : Byte := readCell p.oam (4 * i + k)

/-- Sprite height (R308). -/
def spriteHeight (p : Ppu) : Nat := if p.ctrl.getLsbD 5 then 16 else 8

/-- First line of sprite `i` (R308). -/
def spriteTop (p : Ppu) (i : Nat) : Nat := (spriteByte p i 0).toNat + 1

/-- Sprite `i` covers scanline `s` (R308). -/
def spriteCovers (p : Ppu) (i s : Nat) : Bool :=
  spriteTop p i ≤ s && s < spriteTop p i + spriteHeight p

/-- Address of a sprite's pattern row: `v` is the row within the sprite (R309). -/
def spritePattern (p : Ppu) (i v : Nat) : Nat :=
  let t := (spriteByte p i 1).toNat
  if spriteHeight p = 8 then bitNat p.ctrl 3 * 0x1000 + t * 16 + v
  else t % 2 * 0x1000 + (t / 2 * 2 + (if 8 ≤ v then 1 else 0)) * 16 + v % 8

/-- The 2-bit index of `SpritePixel(i, s, x)`; 0, transparent, outside the sprite (R309). -/
def spriteIndex (p : Ppu) (i s x : Nat) : Nat :=
  let sx := (spriteByte p i 3).toNat
  let at' := spriteByte p i 2
  if spriteCovers p i s && sx ≤ x && x ≤ sx + 7 then
    let v0 := s - spriteTop p i
    let v := if at'.getLsbD 7 then spriteHeight p - 1 - v0 else v0
    let c := if at'.getLsbD 6 then 7 - (x - sx) else x - sx
    patternIndex p (spritePattern p i v) (7 - c)
  else 0

/-- The colour of sprite `i`'s opaque pixel (R309). -/
def spriteColour (p : Ppu) (i s x : Nat) : Byte :=
  palRead p (0x10 + (spriteByte p i 2).toNat % 4 * 4 + spriteIndex p i s x)

/-- The front sprite at a column: the lowest index with an opaque pixel there; all 64 are scanned
(R308, R310). -/
def frontSprite (p : Ppu) (s x : Nat) : Option Nat :=
  (List.range 64).find? fun i => spriteIndex p i s x != 0

/-- `Composite(s, x, ..)` (R301, R311). -/
def composite (p : Ppu) (s x : Nat) : Byte :=
  let bg := background p s x
  if spritesOn p then
    match frontSprite p s x with
    | none => bg.colour
    | some i =>
      if bg.idx ≠ 0 && (spriteByte p i 2).getLsbD 5 then bg.colour else spriteColour p i s x
  else bg.colour

/-- `SpriteZeroHit(s, ..)` (R312). -/
def spriteZeroHit (p : Ppu) (s : Nat) : Bool :=
  spritesOn p && bgOn p && spriteCovers p 0 s &&
    (List.range 256).any fun x => spriteIndex p 0 s x != 0 && (background p s x).idx != 0

/-- The 256 colours of a scanline (R300). -/
def renderLine (p : Ppu) (s : Nat) : List Byte := (List.range 256).map (composite p s)

/-- `RenderScanline(s)`: emit the line; set the sprite-zero-hit flag on an overlap; nothing else changes
(R300, R312, R316). -/
def renderScanline (k : Nat) (s : State) : State :=
  { s with
    ppu := if spriteZeroHit s.ppu k then { s.ppu with status := s.ppu.status ||| 0x40 } else s.ppu,
    out := .lineOut k (renderLine s.ppu k) :: s.out }

-- The tick (R295 to R298)

/-- The pre-render event at (-1, 1): clear vertical blank and sprite-zero hit, reset the selector (R296). -/
def preRenderEvent (s : State) : State :=
  { s with ppu := { s.ppu with status := s.ppu.status &&& 0x3F, ntSel := 0 } }

/-- The vertical-blank event at (241, 1): set the flag and, if enabled, request the NMI (R297). -/
def vblankEvent (s : State) : State :=
  { s with ppu := { s.ppu with status := s.ppu.status ||| 0x80 },
           nmiReq := s.nmiReq || s.ppu.ctrl.getLsbD 7 }

/-- The event of the current position (R295, R298). -/
def ppuEvent (s : State) : State :=
  if s.ppu.scanline = -1 ∧ s.ppu.dot = 1 then preRenderEvent s
  else if 0 ≤ s.ppu.scanline ∧ s.ppu.scanline ≤ 239 ∧ s.ppu.dot = 0 then
    renderScanline s.ppu.scanline.toNat s
  else if s.ppu.scanline = 241 ∧ s.ppu.dot = 1 then vblankEvent s
  else s

/-- Advance the counters by one dot (R295). -/
def advanceDot (p : Ppu) : Ppu :=
  if p.dot + 1 = 341 then
    if p.scanline + 1 = 261 then { p with dot := 0, scanline := -1, frame := p.frame + 1 }
    else { p with dot := 0, scanline := p.scanline + 1 }
  else { p with dot := p.dot + 1 }

/-- `PpuTick`: the event of the position, then the advance (R295). -/
def ppuTick (s : State) : State :=
  let s1 := ppuEvent s
  { s1 with ppu := advanceDot s1.ppu }

end Sys2Proof.Machine
end

