-- ==== Sys2Proof/Machine/Apu.lean ====
section
/-! DEFINITION. The audio processor and the controller ports (spec/45_audio_processor.md). -/

namespace Sys2Proof.Machine

/-- `LEN_TABLE` (R346). -/
def lenTable : List Nat :=
  [10, 254, 20, 2, 40, 4, 80, 6, 160, 8, 60, 10, 14, 12, 26, 14,
   12, 16, 24, 18, 48, 20, 96, 22, 192, 24, 72, 26, 16, 28, 32, 30]

/-- `NOISE_TABLE`, in CPU cycles (R347). -/
def noiseTable : List Nat :=
  [4, 8, 16, 32, 64, 96, 128, 160, 202, 254, 380, 508, 762, 1016, 2034, 4068]

/-- The length loaded by a register value: the code is bits 7:3 (R334, R346). -/
def lengthOf (w : Byte) : Byte := BitVec.ofNat 8 (lenTable.getD (w.toNat / 8) 0)

-- Register writes (R331 to R343)

/-- Duty and envelope configuration (R331). -/
def pulseConfig (w : Byte) (p : Pulse) : Pulse :=
  { p with duty := (w >>> 6).setWidth 2, halt := w.getLsbD 5, cvol := w.getLsbD 4, vol := w.setWidth 4 }

/-- Sweep configuration (R332). -/
def pulseSweep (w : Byte) (p : Pulse) : Pulse :=
  { p with swEn := w.getLsbD 7, swPeriod := (w >>> 4).setWidth 3, swNeg := w.getLsbD 3, swShift := w.setWidth 3,
           swReload := true }

/-- The low eight bits of an 11-bit timer (R333, R336). -/
def timerLow (w : Byte) (t : BitVec 11) : BitVec 11 := (t &&& 0x700) ||| w.setWidth 11

/-- The high three bits of an 11-bit timer (R334, R337). -/
def timerHigh (w : Byte) (t : BitVec 11) : BitVec 11 := (t &&& 0x0FF) ||| (w.setWidth 11 <<< 8)

/-- Timer low (R333). -/
def pulseTimerLow (w : Byte) (p : Pulse) : Pulse := { p with timer := timerLow w p.timer }

/-- Timer high, length load if the channel is enabled, envelope start (R334). -/
def pulseTimerHigh (w : Byte) (p : Pulse) : Pulse :=
  { p with timer := timerHigh w p.timer, len := if p.enabled then lengthOf w else p.len, envStart := true }

/-- Control flag and linear-counter reload value (R335). -/
def triConfig (w : Byte) (t : Triangle) : Triangle := { t with ctrl := w.getLsbD 7, linLoad := w.setWidth 7 }

/-- Timer low (R336). -/
def triTimerLow (w : Byte) (t : Triangle) : Triangle := { t with timer := timerLow w t.timer }

/-- Timer high, length load if enabled, linear reload (R337). -/
def triTimerHigh (w : Byte) (t : Triangle) : Triangle :=
  { t with timer := timerHigh w t.timer, len := if t.enabled then lengthOf w else t.len, linReload := true }

/-- Envelope configuration (R338). -/
def noiseConfig (w : Byte) (q : Noise) : Noise :=
  { q with halt := w.getLsbD 5, cvol := w.getLsbD 4, vol := w.setWidth 4 }

/-- Mode and period index (R339). -/
def noisePeriod (w : Byte) (q : Noise) : Noise := { q with mode := w.getLsbD 7, period := w.setWidth 4 }

/-- Length load if enabled, envelope start (R340). -/
def noiseLength (w : Byte) (q : Noise) : Noise :=
  { q with len := if q.enabled then lengthOf w else q.len, envStart := true }

/-- A pulse channel's enable bit; a disabled channel's length counter is zeroed at once (R341). -/
def pulseEnable (on : Bool) (p : Pulse) : Pulse := { p with enabled := on, len := if on then p.len else 0 }

/-- Channel enable write (R341). -/
def channelEnable (w : Byte) (q : Apu) : Apu :=
  { q with
    p1 := pulseEnable (w.getLsbD 0) q.p1, p2 := pulseEnable (w.getLsbD 1) q.p2,
    tri := { q.tri with enabled := w.getLsbD 2, len := if w.getLsbD 2 then q.tri.len else 0 },
    noi := { q.noi with enabled := w.getLsbD 3, len := if w.getLsbD 3 then q.noi.len else 0 } }

/-- Channel status read: one bit per length counter that is not zero (R342). -/
def channelStatus (q : Apu) : Byte :=
  BitVec.ofNat 8 (bitAt (q.p1.len != 0) 0 + bitAt (q.p2.len != 0) 1 + bitAt (q.tri.len != 0) 2
    + bitAt (q.noi.len != 0) 3)

/-- Frame sequencer mode write (R343). -/
def frameMode (w : Byte) (q : Apu) : Apu := { q with fsMode := w.getLsbD 7, fsDiv := 0, fsStep := 0 }

-- The units the sequencer clocks (R352 to R356)

/-- `ClockLength`: count down unless halted (R352). -/
def clockLength (halt : Bool) (len : Byte) : Byte := if len != 0 && !halt then len - 1 else len

/-- An envelope's three fields (R27, R29). -/
structure Envelope where
  start : Bool
  div : BitVec 4
  decay : BitVec 4
  deriving DecidableEq, Repr

/-- `ClockEnvelope` (R353). -/
def clockEnvelope (vol : BitVec 4) (loop : Bool) (e : Envelope) : Envelope :=
  if e.start then { start := false, div := vol, decay := 15 }
  else if e.div = 0 then
    { e with div := vol,
             decay := if e.decay != 0 then e.decay - 1 else if loop then 15 else e.decay }
  else { e with div := e.div - 1 }

/-- `ClockEnvelope(p)` of a pulse generator (R353). -/
def clockPulseEnvelope (p : Pulse) : Pulse :=
  let e := clockEnvelope p.vol p.halt { start := p.envStart, div := p.envDiv, decay := p.envDecay }
  { p with envStart := e.start, envDiv := e.div, envDecay := e.decay }

/-- `ClockEnvelope(noise)` (R353). -/
def clockNoiseEnvelope (q : Noise) : Noise :=
  let e := clockEnvelope q.vol q.halt { start := q.envStart, div := q.envDiv, decay := q.envDecay }
  { q with envStart := e.start, envDiv := e.div, envDecay := e.decay }

/-- The sweep's target period; pulse 1 subtracts one more (R355). -/
def sweepTarget (first : Bool) (p : Pulse) : Int :=
  let t : Int := p.timer.toNat
  let change : Int := p.timer.toNat / 2 ^ p.swShift.toNat
  if p.swNeg then t - change - (if first then 1 else 0) else t + change

/-- Whether a sweep clock updates the period (R355). -/
def sweepUpdates (first : Bool) (p : Pulse) : Bool :=
  p.swDiv = 0 && p.swEn && p.swShift != 0 && 8 ≤ p.timer.toNat && sweepTarget first p ≤ 0x7FF

/-- `ClockSweep(p)`; `first` says that it is pulse 1 (R355). -/
def clockSweep (first : Bool) (p : Pulse) : Pulse :=
  let p1 := if sweepUpdates first p then { p with timer := BitVec.ofInt 11 (sweepTarget first p) } else p
  if p.swDiv = 0 || p.swReload then { p1 with swDiv := p.swPeriod, swReload := false }
  else { p1 with swDiv := p.swDiv - 1 }

/-- `ClockLinear` (R356). -/
def clockLinear (t : Triangle) : Triangle :=
  { t with
    lin := if t.linReload then t.linLoad else if t.lin != 0 then t.lin - 1 else t.lin,
    linReload := t.linReload && t.ctrl }

/-- The units every sequencer step clocks (R351). -/
def quarterClock (q : Apu) : Apu :=
  { q with p1 := clockPulseEnvelope q.p1, p2 := clockPulseEnvelope q.p2, noi := clockNoiseEnvelope q.noi,
           tri := clockLinear q.tri }

/-- The units that steps 0 and 2 clock: length counters, then sweeps (R351). -/
def halfClock (q : Apu) : Apu :=
  { q with
    p1 := clockSweep true { q.p1 with len := clockLength q.p1.halt q.p1.len },
    p2 := clockSweep false { q.p2 with len := clockLength q.p2.halt q.p2.len },
    tri := { q.tri with len := clockLength q.tri.ctrl q.tri.len },
    noi := { q.noi with len := clockLength q.noi.halt q.noi.len } }

/-- `SequencerStep` (R351). -/
def sequencerStep (q : Apu) : Apu :=
  let q1 := quarterClock q
  let q2 := if q.fsStep = 0 ∨ q.fsStep = 2 then halfClock q1 else q1
  { q2 with fsStep := (q.fsStep + 1) % (if q.fsMode then 5 else 4) }

-- Output (R354, R360, R366)

/-- `Volume` (R354). -/
def volume (cvol : Bool) (vol decay : BitVec 4) : BitVec 4 := if cvol then vol else decay

/-- A channel's triple: silent, zero frequency and volume (R360). -/
def tone (sounding : Bool) (freq : Rat) (vol : BitVec 4) (shape : Shape) : Tone :=
  if sounding then { freq := freq, vol := vol, shape := shape } else { freq := 0, vol := 0, shape := shape }

/-- A pulse generator's triple (R360). -/
def pulseTone (clock : Nat) (p : Pulse) : Tone :=
  tone (p.enabled && p.len != 0) ((clock : Rat) / ((16 * (p.timer.toNat + 1) : Nat) : Rat))
    (volume p.cvol p.vol p.envDecay) (.duty p.duty)

/-- The triangle's triple (R360). -/
def triangleTone (clock : Nat) (t : Triangle) : Tone :=
  tone (t.enabled && t.len != 0 && t.lin != 0) ((clock : Rat) / ((32 * (t.timer.toNat + 1) : Nat) : Rat)) 15 .plain

/-- The noise generator's triple (R360). -/
def noiseTone (clock : Nat) (q : Noise) : Tone :=
  tone (q.enabled && q.len != 0) ((clock : Rat) / ((noiseTable.getD q.period.toNat 0 : Nat) : Rat))
    (volume q.cvol q.vol q.envDecay) (.mode q.mode)

/-- The event of an audio step (R366). -/
def audioEvent (clock : Nat) (q : Apu) : OutEvent :=
  .audioOut (pulseTone clock q.p1) (pulseTone clock q.p2) (triangleTone clock q.tri) (noiseTone clock q.noi)

/-- The frame sequencer's divider: `n` cycles on, one step when it reaches the threshold (R350). -/
def dividerStep (threshold n : Nat) (q : Apu) : Apu :=
  if threshold ≤ q.fsDiv + n then sequencerStep { q with fsDiv := q.fsDiv + n - threshold }
  else { q with fsDiv := q.fsDiv + n }

/-- `ApuStep(n)` (R350). -/
def apuStep (n : Nat) (s : State) : State :=
  let q := dividerStep s.cfg.apuFrameDivider n s.apu
  { s with apu := q, out := audioEvent s.cfg.fixedClock q :: s.out }

-- Controller ports (R370 to R372)

/-- Strobe write: with bit 0 set the buttons are latched into both shift registers (R371). -/
def strobeWrite (w : Byte) (s : State) : State :=
  if w.getLsbD 0 then { s with ctl := { strobe := true, shift0 := s.buttons0, shift1 := s.buttons1 } }
  else { s with ctl := { s.ctl with strobe := false } }

/-- One bit in a byte whose other bits are 0 (R372). -/
def bitByte (p : Bool) : Byte := BitVec.ofNat 8 p.toNat

/-- A shift register after a read: ones shift in at the top (R372). -/
def shiftButtons (w : Byte) : Byte := (w >>> 1) ||| 0x80

/-- Read of controller 0 at `$4016` (R372). -/
def controllerRead0 (s : State) : Result Byte :=
  if s.ctl.strobe then .ok (bitByte (s.buttons0.getLsbD 0)) s
  else .ok (bitByte (s.ctl.shift0.getLsbD 0)) { s with ctl := { s.ctl with shift0 := shiftButtons s.ctl.shift0 } }

/-- Read of controller 1 at `$4017` (R372). -/
def controllerRead1 (s : State) : Result Byte :=
  if s.ctl.strobe then .ok (bitByte (s.buttons1.getLsbD 0)) s
  else .ok (bitByte (s.ctl.shift1.getLsbD 0)) { s with ctl := { s.ctl with shift1 := shiftButtons s.ctl.shift1 } }

end Sys2Proof.Machine
end

