-- ==== Sys2Proof/Machine/DiskSystem.lean ====
section
/-! DEFINITION. The disk system (spec/46_disk_system.md): registers, block decoder, byte latency, timer. -/

namespace Sys2Proof.Machine

-- The block decoder (R396 to R402)

/-- The table entry before any of its fields has been parsed (log 14). -/
def blankFile : DiskFile := { id := 0, name := Vector.replicate 8 0, address := 0, size := 0, type := 0 }

/-- Entry `k` of the file table (R400). -/
def fileAt (fs : List DiskFile) (k : Nat) : DiskFile := fs.getD k blankFile

/-- Replace entry `k` of the file table, extending the table up to it (R400). -/
def setFile : List DiskFile → Nat → DiskFile → List DiskFile
  | [], 0, e => [e]
  | [], k + 1, e => blankFile :: setFile [] k e
  | _ :: fs, 0, e => e :: fs
  | f :: fs, k + 1, e => f :: setFile fs k e

/-- One byte of block 3 at offset `k` (R400): offsets 0 and 1 are ignored. -/
def parseField (k : Nat) (w : Byte) (e : DiskFile) : DiskFile :=
  if k = 2 then { e with id := w }
  else if 3 ≤ k ∧ k ≤ 10 then { e with name := e.name.setIfInBounds (k - 3) w }
  else if k = 11 then { e with address := joinBytes (highByte e.address) w }
  else if k = 12 then { e with address := joinBytes w (lowByte e.address) }
  else if k = 13 then { e with size := joinBytes (highByte e.size) w }
  else if k = 14 then { e with size := joinBytes w (lowByte e.size) }
  else if k = 15 then { e with type := w }
  else e

/-- The index `NextImageByte` reads at: past the end it wraps to `START` (R396). -/
def imageIndex (cfg : Params) (q : Disk) : Nat :=
  if cfg.diskImage.length ≤ q.index then cfg.diskStart else q.index

/-- The byte `NextImageByte` returns (R396). The stream is not empty in an accepted configuration. -/
def imageByte (cfg : Params) (q : Disk) : Byte := cfg.diskImage.getD (imageIndex cfg q) 0

/-- The disk after `NextImageByte` (R396). -/
def imageTaken (cfg : Params) (q : Disk) : Disk := { q with index := imageIndex cfg q + 1 }

/-- A checksum state (R398, R399). -/
def isCrc : BlockState → Bool
  | .block1Crc | .block2Crc | .block3Crc | .block4Crc => true
  | .block1 | .block2 | .block3 | .block4 => false

/-- Whether the byte of the current state comes from the image: checksum bytes do only if the image holds
them (R399). -/
def fromImage (cfg : Params) (q : Disk) : Bool := !isCrc q.state || cfg.diskCrcInImage

/-- The byte delivered next (R398, R399). -/
def nextByte (cfg : Params) (q : Disk) : Byte := if fromImage cfg q then imageByte cfg q else 0

/-- How many bytes the current state takes (R398). -/
def blockLength (q : Disk) : Nat :=
  match q.state with
  | .block1 => 56
  | .block2 => 2
  | .block3 => 16
  | .block4 => 1 + (fileAt q.files q.fileCur).size.toNat
  | .block1Crc | .block2Crc | .block3Crc | .block4Crc => 2

/-- "wrap" (R398). -/
def wrapDisk (cfg : Params) (q : Disk) : Disk :=
  { q with state := .block1, index := cfg.diskStart, fileCur := 0 }

/-- The state after the last byte of a block (R398). -/
def nextBlock (cfg : Params) (q : Disk) : Disk :=
  match q.state with
  | .block1 => { q with state := .block1Crc }
  | .block1Crc => { q with state := .block2 }
  | .block2 => { q with state := .block2Crc }
  | .block2Crc => if 0 < q.fileTotal then { q with state := .block3 } else wrapDisk cfg q
  | .block3 => { q with state := .block3Crc }
  | .block3Crc => { q with state := .block4 }
  | .block4 => { q with state := .block4Crc }
  | .block4Crc =>
    let q1 := { q with fileCur := q.fileCur + 1 }
    if q1.fileCur < q1.fileTotal then { q1 with state := .block3 } else wrapDisk cfg q1

/-- The extra action of a byte: block 2 counts the files, block 3 fills the table (R398, R400). -/
def noteByte (w : Byte) (q : Disk) : Disk :=
  match q.state with
  | .block2 => if q.count = 1 then { q with fileTotal := w.toNat } else q
  | .block3 => { q with files := setFile q.files q.fileCur (parseField q.count w (fileAt q.files q.fileCur)) }
  | .block1 | .block1Crc | .block2Crc | .block3Crc | .block4 | .block4Crc => q

/-- Take one byte: its action, the count, and the next state when the block is complete (R398). -/
def takeByte (cfg : Params) (q : Disk) : Disk :=
  let w := nextByte cfg q
  let q1 := noteByte w (if fromImage cfg q then imageTaken cfg q else q)
  if blockLength q1 ≤ q1.count + 1 then nextBlock cfg { q1 with count := 0 } else { q1 with count := q1.count + 1 }

/-- `DeliverByte` (R397). -/
def deliverByte (cfg : Params) (q : Disk) : Disk :=
  { takeByte cfg q with data := nextByte cfg q, xferFlag := true, latency := cfg.diskByteCycles }

/-- Decoder reset (R402). -/
def resetDecoder (cfg : Params) (q : Disk) : Disk :=
  { q with state := .block1, index := cfg.diskStart, count := 0, fileCur := 0, latency := cfg.diskByteCycles,
           xferFlag := false }

-- Ticks (R395, R401)

/-- `TimerTick` (R401). -/
def timerTick (q : Disk) : Disk :=
  if q.tEnable then
    if q.tCounter = 0 then
      if q.tRepeat then { q with timerFlag := true, tCounter := q.tReload }
      else { q with timerFlag := true, tEnable := false }
    else { q with tCounter := q.tCounter - 1 }
  else q

/-- The drive streams: motor on, not held in reset, read mode (R388, R395). -/
def streaming (q : Disk) : Bool := q.ctrl.getLsbD 0 && !q.ctrl.getLsbD 1 && q.ctrl.getLsbD 2

/-- The latency countdown, which stands still while a delivered byte waits (R395). -/
def latencyTick (cfg : Params) (q : Disk) : Disk :=
  if streaming q && !q.xferFlag then
    let q1 := { q with latency := q.latency - 1 }
    if q1.latency = 0 then deliverByte cfg q1 else q1
  else q

/-- `DskTick`: nothing without the Disk System (R380, R395). -/
def diskTick (s : State) : State :=
  if s.cfg.diskPresent then { s with dsk := latencyTick s.cfg (timerTick s.dsk) } else s

-- Registers (R384 to R394)

/-- The assigned registers of `$4020..$4033` (10_state.md section 7). -/
inductive DiskReg where
  | timerLow
  | timerHigh
  | timerControl
  | ioEnable
  | writeData
  | control
  | external
  | status
  | readData
  | driveStatus
  | externalInput
  deriving DecidableEq, Repr

/-- Write of the control register (R388): store, override the mirroring (R393), reset the decoder when the
motor is off or reset is held (R402). -/
def diskControl (w : Byte) (s : State) : State :=
  let q := { s.dsk with ctrl := w }
  { s with
    dsk := if !w.getLsbD 0 || w.getLsbD 1 then resetDecoder s.cfg q else q,
    ppu := { s.ppu with mirror := if w.getLsbD 3 then .horizontal else .vertical } }

/-- A register write with the Disk System present (R384 to R388); the read-only ones ignore it (R394). -/
def diskRegWrite (r : DiskReg) (w : Byte) (s : State) : State :=
  match r with
  | .timerLow => { s with dsk := { s.dsk with tReload := joinBytes (highByte s.dsk.tReload) w } }
  | .timerHigh => { s with dsk := { s.dsk with tReload := joinBytes w (lowByte s.dsk.tReload) } }
  | .timerControl =>
    { s with dsk :=
      { s.dsk with
        tRepeat := w.getLsbD 0, tEnable := w.getLsbD 1,
        tCounter := if w.getLsbD 1 then s.dsk.tReload else s.dsk.tCounter,
        timerFlag := if w.getLsbD 1 then s.dsk.timerFlag else false } }
  | .ioEnable => { s with dsk := { s.dsk with ioEn := w } }
  | .writeData => { s with dsk := { s.dsk with xferFlag := false } }
  | .control => diskControl w s
  | .external => { s with dsk := { s.dsk with ext := w } }
  | .status | .readData | .driveStatus | .externalInput => s

/-- The status byte (R389). -/
def diskStatus (q : Disk) : Byte := BitVec.ofNat 8 (bitAt q.timerFlag 0 + bitAt q.xferFlag 1)

/-- The drive-status byte: inserted, readiness, write-protected (R391). -/
def driveStatus (q : Disk) : Byte :=
  BitVec.ofNat 8 (bitAt (!q.ctrl.getLsbD 0 || q.ctrl.getLsbD 1) 1 + bitAt true 2)

/-- A register read with the Disk System present (R389 to R392); the write-only ones return any byte (R394). -/
def diskRegRead (r : DiskReg) (s : State) : Result Byte :=
  match r with
  | .status => .ok (diskStatus s.dsk) { s with dsk := { s.dsk with timerFlag := false, xferFlag := false } }
  | .readData => .ok s.dsk.data { s with dsk := { s.dsk with xferFlag := false } }
  | .driveStatus => .ok (driveStatus s.dsk) s
  | .externalInput => .ok 0x80 s
  | .timerLow | .timerHigh | .timerControl | .ioEnable | .writeData | .control | .external => freeRead s

end Sys2Proof.Machine
end

