-- ==== Sys2Proof/Machine/Bus.lean ====
section
/-! DEFINITION. The memory bus (spec/20_memory.md): routing of the 16-bit address space, the two operations
`MemRead` and `MemWrite`, the I/O window and the bulk copy. -/

namespace Sys2Proof.Machine

/-- The regions of the bus (R40). -/
inductive Region where
  /-- Working RAM, with the cell its mirrors fold to (R43). -/
  | ram (cell : Nat)
  /-- Pixel-processor register window (R44). -/
  | ppu (r : PpuReg)
  /-- The bulk-copy address (R48, R49). -/
  | bulkCopy
  /-- Audio, controller and disk register window (R45, R46). -/
  | io
  /-- Cartridge space (R47). -/
  | cart (cell : Nat)
  deriving DecidableEq, Repr

/-- The region of an address, tested in priority order (R40). -/
def region (a : Word) : Region :=
  if a.toNat ≤ 0x1FFF then .ram (a.toNat % 0x800)
  else if a.toNat ≤ 0x3FFF then .ppu (ppuReg a)
  else if a.toNat = 0x4014 then .bulkCopy
  else if a.toNat ≤ 0x41FF then .io
  else .cart a.toNat

/-- The registers of the I/O window (10_state.md section 7). -/
inductive IoReg where
  | pulse1Config
  | pulse1Sweep
  | pulse1Low
  | pulse1High
  | pulse2Config
  | pulse2Sweep
  | pulse2Low
  | pulse2High
  | triangleConfig
  | triangleLow
  | triangleHigh
  | noiseConfig
  | noisePeriod
  | noiseLength
  | channels
  | strobe
  | frame
  | disk (r : DiskReg)
  | unassigned
  deriving DecidableEq, Repr

/-- The register at an address of the I/O window (10_state.md section 7; R344 and R394 for the rest). -/
def ioReg (a : Word) : IoReg :=
  match a.toNat with
  | 0x4000 => .pulse1Config
  | 0x4001 => .pulse1Sweep
  | 0x4002 => .pulse1Low
  | 0x4003 => .pulse1High
  | 0x4004 => .pulse2Config
  | 0x4005 => .pulse2Sweep
  | 0x4006 => .pulse2Low
  | 0x4007 => .pulse2High
  | 0x4008 => .triangleConfig
  | 0x400A => .triangleLow
  | 0x400B => .triangleHigh
  | 0x400C => .noiseConfig
  | 0x400E => .noisePeriod
  | 0x400F => .noiseLength
  | 0x4015 => .channels
  | 0x4016 => .strobe
  | 0x4017 => .frame
  | 0x4020 => .disk .timerLow
  | 0x4021 => .disk .timerHigh
  | 0x4022 => .disk .timerControl
  | 0x4023 => .disk .ioEnable
  | 0x4024 => .disk .writeData
  | 0x4025 => .disk .control
  | 0x4026 => .disk .external
  | 0x4030 => .disk .status
  | 0x4031 => .disk .readData
  | 0x4032 => .disk .driveStatus
  | 0x4033 => .disk .externalInput
  | _ => .unassigned

/-- `IoRegRead(addr)` (R45): the three readable audio and controller registers, the disk registers when the
Disk System is present (R380), any byte elsewhere (R344, R394). -/
def ioRead (r : IoReg) (s : State) : Result Byte :=
  match r with
  | .channels => .ok (channelStatus s.apu) s
  | .strobe => controllerRead0 s
  | .frame => controllerRead1 s
  | .disk q => if s.cfg.diskPresent then diskRegRead q s else freeRead s
  | .pulse1Config | .pulse1Sweep | .pulse1Low | .pulse1High | .pulse2Config | .pulse2Sweep | .pulse2Low
  | .pulse2High | .triangleConfig | .triangleLow | .triangleHigh | .noiseConfig | .noisePeriod | .noiseLength
  | .unassigned => freeRead s

/-- The audio registers' own write rules (R331 to R341, R343). -/
def apuWrite (r : IoReg) (w : Byte) (q : Apu) : Apu :=
  match r with
  | .pulse1Config => { q with p1 := pulseConfig w q.p1 }
  | .pulse1Sweep => { q with p1 := pulseSweep w q.p1 }
  | .pulse1Low => { q with p1 := pulseTimerLow w q.p1 }
  | .pulse1High => { q with p1 := pulseTimerHigh w q.p1 }
  | .pulse2Config => { q with p2 := pulseConfig w q.p2 }
  | .pulse2Sweep => { q with p2 := pulseSweep w q.p2 }
  | .pulse2Low => { q with p2 := pulseTimerLow w q.p2 }
  | .pulse2High => { q with p2 := pulseTimerHigh w q.p2 }
  | .triangleConfig => { q with tri := triConfig w q.tri }
  | .triangleLow => { q with tri := triTimerLow w q.tri }
  | .triangleHigh => { q with tri := triTimerHigh w q.tri }
  | .noiseConfig => { q with noi := noiseConfig w q.noi }
  | .noisePeriod => { q with noi := noisePeriod w q.noi }
  | .noiseLength => { q with noi := noiseLength w q.noi }
  | .channels => channelEnable w q
  | .frame => frameMode w q
  | .strobe | .disk _ | .unassigned => q

/-- `IoRegWrite(addr, v)` (R46); writes of unassigned and read-only registers are ignored (R344, R394), and so
are all disk registers without the Disk System (R380). -/
def ioWrite (r : IoReg) (w : Byte) (s : State) : State :=
  match r with
  | .strobe => strobeWrite w s
  | .disk q => if s.cfg.diskPresent then diskRegWrite q w s else s
  | .unassigned => s
  | .pulse1Config | .pulse1Sweep | .pulse1Low | .pulse1High | .pulse2Config | .pulse2Sweep | .pulse2Low
  | .pulse2High | .triangleConfig | .triangleLow | .triangleHigh | .noiseConfig | .noisePeriod | .noiseLength
  | .channels | .frame => { s with apu := apuWrite r w s.apu }

/-- A read of the I/O window through its hook (R45, R50). -/
def ioWindowRead (a : Word) (s : State) : Result Byte :=
  if s.ioHook then ioRead (ioReg a) s else .stop (.noHandler a) s

/-- `MemRead(addr, 1)` (R41). A read of the bulk-copy address is an I/O read (R49). -/
def busRead (a : Word) (s : State) : Result Byte :=
  match region a with
  | .ram k => .ok (readCell s.ram k) s
  | .ppu r => if s.ppuHook then ppuRegRead r s else .stop (.noHandler a) s
  | .bulkCopy => ioWindowRead a s
  | .io => ioWindowRead a s
  | .cart k => .ok (readCell s.cart k) s

/-- The copy of `k` bytes from offset `i` of a page into OAM, in ascending order, by ordinary bus reads with
their side effects (R48). -/
def copyBytes (page : Byte) : Nat → Nat → State → Result Unit
  | 0, _, s => .ok () s
  | k + 1, i, s =>
    (busRead (BitVec.ofNat 16 (page.toNat * 256 + i)) s).andThen fun w s1 =>
      copyBytes page k (i + 1) { s1 with ppu := { s1.ppu with oam := writeCell s1.ppu.oam i w } }

/-- The bulk copy: 256 bytes of the page the written value selects (R48). -/
def bulkCopy (page : Byte) (s : State) : Result Unit := copyBytes page 256 0 s

/-- `MemWrite(addr, 1, v)` (R42). -/
def busWrite (a : Word) (w : Byte) (s : State) : Result Unit :=
  match region a with
  | .ram k => .ok () { s with ram := writeCell s.ram k w }
  | .ppu r => if s.ppuHook then ppuRegWrite r w s else .stop (.noHandler a) s
  | .bulkCopy => bulkCopy w s
  | .io => if s.ioHook then .ok () (ioWrite (ioReg a) w s) else .stop (.noHandler a) s
  | .cart k => .ok () { s with cart := writeCell s.cart k w }

/-- The byte stored at an address of RAM or cartridge space, where there is one (R43, R47). It has no side
effect; statements read memory through it. -/
def storedByte (s : State) (a : Word) : Option Byte :=
  match region a with
  | .ram k => some (readCell s.ram k)
  | .cart k => some (readCell s.cart k)
  | .ppu _ | .bulkCopy | .io => none

/-- `fetch()`: read the byte at `pc`, then advance `pc` with wrap (R12, 00_scope.md section 5). -/
def fetchByte (s : State) : Result Byte :=
  (busRead s.pc s).andThen fun w s1 => .ok w { s1 with pc := s1.pc + 1 }

/-- Fetch and decode: the opcode byte, then the operand bytes its row asks for, none for a stub (R80 to R82).
Every byte has a row (R81); a byte without one would be an opcode with no handler. -/
def fetchInstr (s : State) : Result Instr :=
  (fetchByte s).andThen fun op s1 =>
    match patternOf op with
    | some (.f1 i) => .ok i s1
    | some (.f2 make) => (fetchByte s1).andThen fun w s2 => .ok (make w) s2
    | some (.f3 make) =>
      (fetchByte s1).andThen fun lo s2 => (fetchByte s2).andThen fun hi s3 => .ok (make (joinBytes hi lo)) s3
    | none => .stop (.noOpcodeHandler op (s1.pc - 1)) s1

end Sys2Proof.Machine
end

