-- ==== Sys2Proof/Machine/Operands.lean ====
section
/-! DEFINITION. The operand forms (R90 to R102) and the instruction classes over them: each class is one shared
operation, with the base cost its instruction gives it (R103, R480). The effects of the single instructions on
registers and flags stand here too, as functions on the state, so that a meaning is one line. -/

namespace Sys2Proof.Machine

-- Effective addresses

/-- An effective address, and whether indexing crossed a page (00_scope.md, "Operand resolution"). -/
structure Ea where
  addr : Word
  crossed : Bool
  deriving DecidableEq, Repr

/-- Two addresses on different 256-byte pages. -/
def pagesDiffer (a b : Word) : Bool := highByte a != highByte b

/-- A byte of page zero, as an address `$00:z`. -/
def zeroPageAddr (z : Byte) : Word := z.setWidth 16

/-- The byte at `$00:z`: a RAM cell (R40, R43). -/
def zeroPageByte (s : State) (z : Byte) : Byte := readCell s.ram z.toNat

/-- The pointer at `$00:z`, whose second byte comes from page zero too (R101, R102). -/
def zeroPagePointer (s : State) (z : Byte) : Word := joinBytes (zeroPageByte s (z + 1)) (zeroPageByte s z)

/-- An indexed address with its page crossing; the sum wraps at 16 bits (R96). -/
def indexed (base : Word) (k : Byte) : Ea :=
  { addr := base + k.setWidth 16, crossed := pagesDiffer (base + k.setWidth 16) base }

/-- `Resolve(m)` for the modes with an effective address, once the operand bytes are fetched
(R95 to R102). -/
def resolve (m : MemOperand) (s : State) : Ea :=
  match m with
  | .zp z => { addr := zeroPageAddr z, crossed := false }
  | .zpx z => { addr := zeroPageAddr (z + s.x), crossed := false }
  | .zpy z => { addr := zeroPageAddr (z + s.y), crossed := false }
  | .abs a => { addr := a, crossed := false }
  | .abx a => indexed a s.x
  | .aby a => indexed a s.y
  | .izy z => indexed (zeroPagePointer s z) s.y
  | .izx z => { addr := zeroPagePointer s (z + s.x), crossed := false }

/-- `LoadOperand(m)`: the accumulator, the immediate, or one bus read (00_scope.md section 5). -/
def loadOperand (o : Operand) (s : State) : Result Byte :=
  match o with
  | .acc => .ok s.a s
  | .imm w => .ok w s
  | .mem m => busRead (resolve m s).addr s

/-- The page-crossing penalty of a read operand (R103). -/
def readPenalty (o : Operand) (s : State) : Nat :=
  match o with
  | .acc => 0
  | .imm _ => 0
  | .mem m => (resolve m s).crossed.toNat

-- Instruction classes (R481)

/-- An instruction that reads its operand and changes registers and flags by `f`; a page crossing costs one
cycle more (R103). -/
def readClass (o : Operand) (base : Nat) (f : Byte → State → State) (s : State) : Result Unit :=
  (loadOperand o s).andThen fun w s1 => .ok () (spend (base + readPenalty o s) (f w s1))

/-- A store: one bus write and no read, a fixed cost (R120, R124). -/
def storeClass (m : MemOperand) (base : Nat) (w : Byte) (s : State) : Result Unit :=
  (busWrite (resolve m s).addr w s).andThen fun _ s1 => .ok () (spend base s1)

/-- A read-modify-write: one read and one write of the same address, then the effect of the new byte and carry on
registers and flags; a fixed cost (R65, R160, R230). -/
def rmwClass (m : MemOperand) (base : Nat) (f : Byte → Bool → Shifted) (g : Shifted → State → State) (s : State) :
    Result Unit :=
  let ea := (resolve m s).addr
  (busRead ea s).andThen fun w s1 =>
    let t := f w s1.c
    (busWrite ea t.r s1).andThen fun _ s2 => .ok () (spend base (g t s2))

/-- The accumulator form of a shift: A is read and written, no bus access (R90). -/
def accClass (base : Nat) (f : Byte → Bool → Shifted) (g : Shifted → State → State) (s : State) : Result Unit :=
  let t := f s.a s.c
  .ok () (spend base (g t { s with a := t.r }))

/-- An implied instruction: registers, flags and stack only (R91). -/
def implied (base : Nat) (f : State → State) (s : State) : Result Unit := .ok () (spend base (f s))

/-- A conditional branch: `pc` is at the next instruction; taken costs one more, and another if the target lies
on a different page than the next instruction (R94, R197). -/
def branch (cond : Bool) (off : Int) (s : State) : Result Unit :=
  let target := s.pc + BitVec.ofInt 16 off
  if cond then .ok () (spend (2 + 1 + (pagesDiffer target s.pc).toNat) { s with pc := target })
  else .ok () (spend 2 s)

/-- `JMP` absolute (R191). -/
def jumpTo (a : Word) (base : Nat) (s : State) : Result Unit := .ok () (spend base { s with pc := a })

/-- Where the second pointer byte of `JMP` indirect comes from: the same page, unless the parameter says
otherwise (R93). -/
def pointerHigh (cfg : Params) (p : Word) : Word :=
  if cfg.jmpIndPageWrap then joinBytes (highByte p) (lowByte p + 1) else p + 1

/-- `JMP` absolute-indirect: two ordinary bus reads, low byte first (R93, R192). -/
def jumpIndirect (p : Word) (base : Nat) (s : State) : Result Unit :=
  (busRead p s).andThen fun lo s1 =>
    (busRead (pointerHigh s1.cfg p) s1).andThen fun hi s2 => .ok () (spend base { s2 with pc := joinBytes hi lo })

/-- `JSR`: push the address of the instruction's last byte, high byte first, then jump (R193). -/
def callTo (a : Word) (base : Nat) (s : State) : Result Unit :=
  let ret := s.pc - 1
  .ok () (spend base { push (lowByte ret) (push (highByte ret) s) with pc := a })

-- Effects of the read instructions

/-- `LDA` (R121). -/
def loadA (w : Byte) (s : State) : State := setNZ w { s with a := w }
/-- `LDX` (R122). -/
def loadX (w : Byte) (s : State) : State := setNZ w { s with x := w }
/-- `LDY` (R123). -/
def loadY (w : Byte) (s : State) : State := setNZ w { s with y := w }
/-- `LAX` (R236). -/
def loadAX (w : Byte) (s : State) : State := setNZ w { s with a := w, x := w }
/-- `ADC` (R151). -/
def adc (w : Byte) (s : State) : State := setSum (add8 s.a w s.c) s
/-- `SBC` (R152, R243). -/
def sbc (w : Byte) (s : State) : State := setSum (sub8 s.a w s.c) s
/-- `AND` (R153). -/
def andA (w : Byte) (s : State) : State := loadA (s.a &&& w) s
/-- `ORA` (R154). -/
def oraA (w : Byte) (s : State) : State := loadA (s.a ||| w) s
/-- `EOR` (R155). -/
def eorA (w : Byte) (s : State) : State := loadA (s.a ^^^ w) s
/-- `BIT`: N and V come from the operand, Z from the AND (R159). -/
def bitTest (w : Byte) (s : State) : State :=
  { s with z := (s.a &&& w) == 0, n := w.getLsbD 7, v := w.getLsbD 6 }
/-- `CMP` (R156). -/
def cmpA (w : Byte) (s : State) : State := compare s.a w s
/-- `CPX` (R157). -/
def cmpX (w : Byte) (s : State) : State := compare s.x w s
/-- `CPY` (R158). -/
def cmpY (w : Byte) (s : State) : State := compare s.y w s
/-- A no-op with an operand: the value is discarded (R245, R246). -/
def nopRead (_ : Byte) (s : State) : State := s
/-- `ANC`: AND, then the sign into C (R239). -/
def anc (w : Byte) (s : State) : State := { loadA (s.a &&& w) s with c := (s.a &&& w).getLsbD 7 }
/-- `ALR`: AND, then shift right (R240). -/
def alr (w : Byte) (s : State) : State :=
  let t := lsr8 (s.a &&& w) s.c
  { loadA t.r s with c := t.carry }
/-- `ARR`: AND, then rotate right, C from bit 6 and V from bits 6 and 5 of the result (R251). -/
def arr (w : Byte) (s : State) : State :=
  let r := (ror8 (s.a &&& w) s.c).r
  { loadA r s with c := r.getLsbD 6, v := r.getLsbD 6 ^^ r.getLsbD 5 }
/-- `SBX`: `(A & X) - imm` into X with the carry of a compare (R242). -/
def sbx (w : Byte) (s : State) : State :=
  let t := s.a &&& s.x
  { loadX (t - w) s with c := decide (w.toNat ≤ t.toNat) }

-- Effects of the read-modify-write instructions, after the byte is written

/-- `INC`, `DEC`: N and Z from the new byte (R160, R161). -/
def keepNZ (t : Shifted) (s : State) : State := setNZ t.r s
/-- `ASL`, `LSR`, `ROL`, `ROR`: C, N, Z (R166 to R169). -/
def shiftNZC (t : Shifted) (s : State) : State := setNZ t.r { s with c := t.carry }
/-- `SLO`: OR with the shifted byte (R231). -/
def sloA (t : Shifted) (s : State) : State := loadA (s.a ||| t.r) { s with c := t.carry }
/-- `RLA`: AND with the rotated byte (R232). -/
def rlaA (t : Shifted) (s : State) : State := loadA (s.a &&& t.r) { s with c := t.carry }
/-- `SRE`: EOR with the shifted byte (R233). -/
def sreA (t : Shifted) (s : State) : State := loadA (s.a ^^^ t.r) { s with c := t.carry }
/-- `RRA`: add the rotated byte with the carry out of the rotate (R234). -/
def rraA (t : Shifted) (s : State) : State := setSum (add8 s.a t.r t.carry) s
/-- `DCP`: compare A with the decremented byte (R237). -/
def dcpA (t : Shifted) (s : State) : State := compare s.a t.r s
/-- `ISC`: subtract the incremented byte with carry (R238). -/
def iscA (t : Shifted) (s : State) : State := setSum (sub8 s.a t.r s.c) s

-- Effects of the implied instructions

/-- `TAX` (R131). -/
def tax (s : State) : State := loadX s.a s
/-- `TAY` (R132). -/
def tay (s : State) : State := loadY s.a s
/-- `TXA` (R133). -/
def txa (s : State) : State := loadA s.x s
/-- `TYA` (R134). -/
def tya (s : State) : State := loadA s.y s
/-- `TSX` (R135). -/
def tsx (s : State) : State := loadX s.sp s
/-- `TXS`: no flag (R137). -/
def txs (s : State) : State := { s with sp := s.x }
/-- `PHA` (R141). -/
def pha (s : State) : State := push s.a s
/-- `PHP`: break bit and bit 5 set in the pushed byte (R142). -/
def php (s : State) : State := push (pByte true s) s
/-- `PLA` (R143). -/
def pla (s : State) : State := loadA (pullByte s) (pulled s)
/-- `PLP` (R144). -/
def plp (s : State) : State := setP (pullByte s) (pulled s)
/-- `INX` (R162). -/
def inx (s : State) : State := loadX (s.x + 1) s
/-- `INY` (R163). -/
def iny (s : State) : State := loadY (s.y + 1) s
/-- `DEX` (R164). -/
def dex (s : State) : State := loadX (s.x - 1) s
/-- `DEY` (R165). -/
def dey (s : State) : State := loadY (s.y - 1) s
/-- `RTS`: address low and high, then one more (R194). -/
def rts (s : State) : State :=
  let s1 := pulled s
  let s2 := pulled s1
  { s2 with pc := joinBytes (pullByte s1) (pullByte s) + 1 }
/-- `CLC` (R206). -/
def clc (s : State) : State := { s with c := false }
/-- `SEC` (R207). -/
def sec (s : State) : State := { s with c := true }
/-- `CLI` (R208). -/
def cli (s : State) : State := { s with i := false }
/-- `SEI` (R209). -/
def sei (s : State) : State := { s with i := true }
/-- `CLV` (R210). -/
def clv (s : State) : State := { s with v := false }
/-- `CLD` (R211). -/
def cld (s : State) : State := { s with d := false }
/-- `SED` (R212). -/
def sed (s : State) : State := { s with d := true }

end Sys2Proof.Machine
end

