-- ==== Sys2Proof/Machine/Arithmetic.lean ====
section
/-! DEFINITION. Arithmetic, logic, compare, increment and shift instructions (spec/41_arithmetic_logic.md): one meaning per opcode row,
each over the shared operations of Machine/Operands.lean. The state a meaning starts from has `pc` past the
operand bytes that `fetchInstr` read (R12, R82). -/

namespace Sys2Proof.Machine

/-- `ADC` (zero page,X), `$61`, 6 cycles (R151). -/
def execAdcIzx (z : Byte) (s : State) : Host.Outcome State Fault Refusal :=
  (readClass (.mem (.izx z)) 6 adc s).outcome

/-- `ADC` zero page, `$65`, 3 cycles (R151). -/
def execAdcZp (z : Byte) (s : State) : Host.Outcome State Fault Refusal :=
  (readClass (.mem (.zp z)) 3 adc s).outcome

/-- `ADC` immediate, `$69`, 2 cycles (R151). -/
def execAdcImm (v : Byte) (s : State) : Host.Outcome State Fault Refusal :=
  (readClass (.imm v) 2 adc s).outcome

/-- `ADC` absolute, `$6D`, 4 cycles (R151). -/
def execAdcAbs (a : Word) (s : State) : Host.Outcome State Fault Refusal :=
  (readClass (.mem (.abs a)) 4 adc s).outcome

/-- `ADC` (zero page),Y, `$71`, 5 cycles* (R151). -/
def execAdcIzy (z : Byte) (s : State) : Host.Outcome State Fault Refusal :=
  (readClass (.mem (.izy z)) 5 adc s).outcome

/-- `ADC` zero page,X, `$75`, 4 cycles (R151). -/
def execAdcZpx (z : Byte) (s : State) : Host.Outcome State Fault Refusal :=
  (readClass (.mem (.zpx z)) 4 adc s).outcome

/-- `ADC` absolute,Y, `$79`, 4 cycles* (R151). -/
def execAdcAby (a : Word) (s : State) : Host.Outcome State Fault Refusal :=
  (readClass (.mem (.aby a)) 4 adc s).outcome

/-- `ADC` absolute,X, `$7D`, 4 cycles* (R151). -/
def execAdcAbx (a : Word) (s : State) : Host.Outcome State Fault Refusal :=
  (readClass (.mem (.abx a)) 4 adc s).outcome

/-- `SBC` (zero page,X), `$E1`, 6 cycles (R152). -/
def execSbcIzx (z : Byte) (s : State) : Host.Outcome State Fault Refusal :=
  (readClass (.mem (.izx z)) 6 sbc s).outcome

/-- `SBC` zero page, `$E5`, 3 cycles (R152). -/
def execSbcZp (z : Byte) (s : State) : Host.Outcome State Fault Refusal :=
  (readClass (.mem (.zp z)) 3 sbc s).outcome

/-- `SBC` immediate, `$E9`, 2 cycles (R152). -/
def execSbcImm (v : Byte) (s : State) : Host.Outcome State Fault Refusal :=
  (readClass (.imm v) 2 sbc s).outcome

/-- `SBC` absolute, `$ED`, 4 cycles (R152). -/
def execSbcAbs (a : Word) (s : State) : Host.Outcome State Fault Refusal :=
  (readClass (.mem (.abs a)) 4 sbc s).outcome

/-- `SBC` (zero page),Y, `$F1`, 5 cycles* (R152). -/
def execSbcIzy (z : Byte) (s : State) : Host.Outcome State Fault Refusal :=
  (readClass (.mem (.izy z)) 5 sbc s).outcome

/-- `SBC` zero page,X, `$F5`, 4 cycles (R152). -/
def execSbcZpx (z : Byte) (s : State) : Host.Outcome State Fault Refusal :=
  (readClass (.mem (.zpx z)) 4 sbc s).outcome

/-- `SBC` absolute,Y, `$F9`, 4 cycles* (R152). -/
def execSbcAby (a : Word) (s : State) : Host.Outcome State Fault Refusal :=
  (readClass (.mem (.aby a)) 4 sbc s).outcome

/-- `SBC` absolute,X, `$FD`, 4 cycles* (R152). -/
def execSbcAbx (a : Word) (s : State) : Host.Outcome State Fault Refusal :=
  (readClass (.mem (.abx a)) 4 sbc s).outcome

/-- `AND` (zero page,X), `$21`, 6 cycles (R153). -/
def execAndIzx (z : Byte) (s : State) : Host.Outcome State Fault Refusal :=
  (readClass (.mem (.izx z)) 6 andA s).outcome

/-- `AND` zero page, `$25`, 3 cycles (R153). -/
def execAndZp (z : Byte) (s : State) : Host.Outcome State Fault Refusal :=
  (readClass (.mem (.zp z)) 3 andA s).outcome

/-- `AND` immediate, `$29`, 2 cycles (R153). -/
def execAndImm (v : Byte) (s : State) : Host.Outcome State Fault Refusal :=
  (readClass (.imm v) 2 andA s).outcome

/-- `AND` absolute, `$2D`, 4 cycles (R153). -/
def execAndAbs (a : Word) (s : State) : Host.Outcome State Fault Refusal :=
  (readClass (.mem (.abs a)) 4 andA s).outcome

/-- `AND` (zero page),Y, `$31`, 5 cycles* (R153). -/
def execAndIzy (z : Byte) (s : State) : Host.Outcome State Fault Refusal :=
  (readClass (.mem (.izy z)) 5 andA s).outcome

/-- `AND` zero page,X, `$35`, 4 cycles (R153). -/
def execAndZpx (z : Byte) (s : State) : Host.Outcome State Fault Refusal :=
  (readClass (.mem (.zpx z)) 4 andA s).outcome

/-- `AND` absolute,Y, `$39`, 4 cycles* (R153). -/
def execAndAby (a : Word) (s : State) : Host.Outcome State Fault Refusal :=
  (readClass (.mem (.aby a)) 4 andA s).outcome

/-- `AND` absolute,X, `$3D`, 4 cycles* (R153). -/
def execAndAbx (a : Word) (s : State) : Host.Outcome State Fault Refusal :=
  (readClass (.mem (.abx a)) 4 andA s).outcome

/-- `ORA` (zero page,X), `$01`, 6 cycles (R154). -/
def execOraIzx (z : Byte) (s : State) : Host.Outcome State Fault Refusal :=
  (readClass (.mem (.izx z)) 6 oraA s).outcome

/-- `ORA` zero page, `$05`, 3 cycles (R154). -/
def execOraZp (z : Byte) (s : State) : Host.Outcome State Fault Refusal :=
  (readClass (.mem (.zp z)) 3 oraA s).outcome

/-- `ORA` immediate, `$09`, 2 cycles (R154). -/
def execOraImm (v : Byte) (s : State) : Host.Outcome State Fault Refusal :=
  (readClass (.imm v) 2 oraA s).outcome

/-- `ORA` absolute, `$0D`, 4 cycles (R154). -/
def execOraAbs (a : Word) (s : State) : Host.Outcome State Fault Refusal :=
  (readClass (.mem (.abs a)) 4 oraA s).outcome

/-- `ORA` (zero page),Y, `$11`, 5 cycles* (R154). -/
def execOraIzy (z : Byte) (s : State) : Host.Outcome State Fault Refusal :=
  (readClass (.mem (.izy z)) 5 oraA s).outcome

/-- `ORA` zero page,X, `$15`, 4 cycles (R154). -/
def execOraZpx (z : Byte) (s : State) : Host.Outcome State Fault Refusal :=
  (readClass (.mem (.zpx z)) 4 oraA s).outcome

/-- `ORA` absolute,Y, `$19`, 4 cycles* (R154). -/
def execOraAby (a : Word) (s : State) : Host.Outcome State Fault Refusal :=
  (readClass (.mem (.aby a)) 4 oraA s).outcome

/-- `ORA` absolute,X, `$1D`, 4 cycles* (R154). -/
def execOraAbx (a : Word) (s : State) : Host.Outcome State Fault Refusal :=
  (readClass (.mem (.abx a)) 4 oraA s).outcome

/-- `EOR` (zero page,X), `$41`, 6 cycles (R155). -/
def execEorIzx (z : Byte) (s : State) : Host.Outcome State Fault Refusal :=
  (readClass (.mem (.izx z)) 6 eorA s).outcome

/-- `EOR` zero page, `$45`, 3 cycles (R155). -/
def execEorZp (z : Byte) (s : State) : Host.Outcome State Fault Refusal :=
  (readClass (.mem (.zp z)) 3 eorA s).outcome

/-- `EOR` immediate, `$49`, 2 cycles (R155). -/
def execEorImm (v : Byte) (s : State) : Host.Outcome State Fault Refusal :=
  (readClass (.imm v) 2 eorA s).outcome

/-- `EOR` absolute, `$4D`, 4 cycles (R155). -/
def execEorAbs (a : Word) (s : State) : Host.Outcome State Fault Refusal :=
  (readClass (.mem (.abs a)) 4 eorA s).outcome

/-- `EOR` (zero page),Y, `$51`, 5 cycles* (R155). -/
def execEorIzy (z : Byte) (s : State) : Host.Outcome State Fault Refusal :=
  (readClass (.mem (.izy z)) 5 eorA s).outcome

/-- `EOR` zero page,X, `$55`, 4 cycles (R155). -/
def execEorZpx (z : Byte) (s : State) : Host.Outcome State Fault Refusal :=
  (readClass (.mem (.zpx z)) 4 eorA s).outcome

/-- `EOR` absolute,Y, `$59`, 4 cycles* (R155). -/
def execEorAby (a : Word) (s : State) : Host.Outcome State Fault Refusal :=
  (readClass (.mem (.aby a)) 4 eorA s).outcome

/-- `EOR` absolute,X, `$5D`, 4 cycles* (R155). -/
def execEorAbx (a : Word) (s : State) : Host.Outcome State Fault Refusal :=
  (readClass (.mem (.abx a)) 4 eorA s).outcome

/-- `BIT` zero page, `$24`, 3 cycles (R159). -/
def execBitZp (z : Byte) (s : State) : Host.Outcome State Fault Refusal :=
  (readClass (.mem (.zp z)) 3 bitTest s).outcome

/-- `BIT` absolute, `$2C`, 4 cycles (R159). -/
def execBitAbs (a : Word) (s : State) : Host.Outcome State Fault Refusal :=
  (readClass (.mem (.abs a)) 4 bitTest s).outcome

/-- `CMP` (zero page,X), `$C1`, 6 cycles (R156). -/
def execCmpIzx (z : Byte) (s : State) : Host.Outcome State Fault Refusal :=
  (readClass (.mem (.izx z)) 6 cmpA s).outcome

/-- `CMP` zero page, `$C5`, 3 cycles (R156). -/
def execCmpZp (z : Byte) (s : State) : Host.Outcome State Fault Refusal :=
  (readClass (.mem (.zp z)) 3 cmpA s).outcome

/-- `CMP` immediate, `$C9`, 2 cycles (R156). -/
def execCmpImm (v : Byte) (s : State) : Host.Outcome State Fault Refusal :=
  (readClass (.imm v) 2 cmpA s).outcome

/-- `CMP` absolute, `$CD`, 4 cycles (R156). -/
def execCmpAbs (a : Word) (s : State) : Host.Outcome State Fault Refusal :=
  (readClass (.mem (.abs a)) 4 cmpA s).outcome

/-- `CMP` (zero page),Y, `$D1`, 5 cycles* (R156). -/
def execCmpIzy (z : Byte) (s : State) : Host.Outcome State Fault Refusal :=
  (readClass (.mem (.izy z)) 5 cmpA s).outcome

/-- `CMP` zero page,X, `$D5`, 4 cycles (R156). -/
def execCmpZpx (z : Byte) (s : State) : Host.Outcome State Fault Refusal :=
  (readClass (.mem (.zpx z)) 4 cmpA s).outcome

/-- `CMP` absolute,Y, `$D9`, 4 cycles* (R156). -/
def execCmpAby (a : Word) (s : State) : Host.Outcome State Fault Refusal :=
  (readClass (.mem (.aby a)) 4 cmpA s).outcome

/-- `CMP` absolute,X, `$DD`, 4 cycles* (R156). -/
def execCmpAbx (a : Word) (s : State) : Host.Outcome State Fault Refusal :=
  (readClass (.mem (.abx a)) 4 cmpA s).outcome

/-- `CPX` immediate, `$E0`, 2 cycles (R157). -/
def execCpxImm (v : Byte) (s : State) : Host.Outcome State Fault Refusal :=
  (readClass (.imm v) 2 cmpX s).outcome

/-- `CPX` zero page, `$E4`, 3 cycles (R157). -/
def execCpxZp (z : Byte) (s : State) : Host.Outcome State Fault Refusal :=
  (readClass (.mem (.zp z)) 3 cmpX s).outcome

/-- `CPX` absolute, `$EC`, 4 cycles (R157). -/
def execCpxAbs (a : Word) (s : State) : Host.Outcome State Fault Refusal :=
  (readClass (.mem (.abs a)) 4 cmpX s).outcome

/-- `CPY` immediate, `$C0`, 2 cycles (R158). -/
def execCpyImm (v : Byte) (s : State) : Host.Outcome State Fault Refusal :=
  (readClass (.imm v) 2 cmpY s).outcome

/-- `CPY` zero page, `$C4`, 3 cycles (R158). -/
def execCpyZp (z : Byte) (s : State) : Host.Outcome State Fault Refusal :=
  (readClass (.mem (.zp z)) 3 cmpY s).outcome

/-- `CPY` absolute, `$CC`, 4 cycles (R158). -/
def execCpyAbs (a : Word) (s : State) : Host.Outcome State Fault Refusal :=
  (readClass (.mem (.abs a)) 4 cmpY s).outcome

/-- `INC` zero page, `$E6`, 5 cycles (R160). -/
def execIncZp (z : Byte) (s : State) : Host.Outcome State Fault Refusal :=
  (rmwClass (.zp z) 5 inc8 keepNZ s).outcome

/-- `INC` absolute, `$EE`, 6 cycles (R160). -/
def execIncAbs (a : Word) (s : State) : Host.Outcome State Fault Refusal :=
  (rmwClass (.abs a) 6 inc8 keepNZ s).outcome

/-- `INC` zero page,X, `$F6`, 6 cycles (R160). -/
def execIncZpx (z : Byte) (s : State) : Host.Outcome State Fault Refusal :=
  (rmwClass (.zpx z) 6 inc8 keepNZ s).outcome

/-- `INC` absolute,X, `$FE`, 7 cycles (R160). -/
def execIncAbx (a : Word) (s : State) : Host.Outcome State Fault Refusal :=
  (rmwClass (.abx a) 7 inc8 keepNZ s).outcome

/-- `DEC` zero page, `$C6`, 5 cycles (R161). -/
def execDecZp (z : Byte) (s : State) : Host.Outcome State Fault Refusal :=
  (rmwClass (.zp z) 5 dec8 keepNZ s).outcome

/-- `DEC` absolute, `$CE`, 6 cycles (R161). -/
def execDecAbs (a : Word) (s : State) : Host.Outcome State Fault Refusal :=
  (rmwClass (.abs a) 6 dec8 keepNZ s).outcome

/-- `DEC` zero page,X, `$D6`, 6 cycles (R161). -/
def execDecZpx (z : Byte) (s : State) : Host.Outcome State Fault Refusal :=
  (rmwClass (.zpx z) 6 dec8 keepNZ s).outcome

/-- `DEC` absolute,X, `$DE`, 7 cycles (R161). -/
def execDecAbx (a : Word) (s : State) : Host.Outcome State Fault Refusal :=
  (rmwClass (.abx a) 7 dec8 keepNZ s).outcome

/-- `INX` implied, `$E8`, 2 cycles (R162). -/
def execInx (s : State) : Host.Outcome State Fault Refusal :=
  (implied 2 inx s).outcome

/-- `INY` implied, `$C8`, 2 cycles (R163). -/
def execIny (s : State) : Host.Outcome State Fault Refusal :=
  (implied 2 iny s).outcome

/-- `DEX` implied, `$CA`, 2 cycles (R164). -/
def execDex (s : State) : Host.Outcome State Fault Refusal :=
  (implied 2 dex s).outcome

/-- `DEY` implied, `$88`, 2 cycles (R165). -/
def execDey (s : State) : Host.Outcome State Fault Refusal :=
  (implied 2 dey s).outcome

/-- `ASL` zero page, `$06`, 5 cycles (R166). -/
def execAslZp (z : Byte) (s : State) : Host.Outcome State Fault Refusal :=
  (rmwClass (.zp z) 5 asl8 shiftNZC s).outcome

/-- `ASL` accumulator, `$0A`, 2 cycles (R166). -/
def execAslAcc (s : State) : Host.Outcome State Fault Refusal :=
  (accClass 2 asl8 shiftNZC s).outcome

/-- `ASL` absolute, `$0E`, 6 cycles (R166). -/
def execAslAbs (a : Word) (s : State) : Host.Outcome State Fault Refusal :=
  (rmwClass (.abs a) 6 asl8 shiftNZC s).outcome

/-- `ASL` zero page,X, `$16`, 6 cycles (R166). -/
def execAslZpx (z : Byte) (s : State) : Host.Outcome State Fault Refusal :=
  (rmwClass (.zpx z) 6 asl8 shiftNZC s).outcome

/-- `ASL` absolute,X, `$1E`, 7 cycles (R166). -/
def execAslAbx (a : Word) (s : State) : Host.Outcome State Fault Refusal :=
  (rmwClass (.abx a) 7 asl8 shiftNZC s).outcome

/-- `LSR` zero page, `$46`, 5 cycles (R167). -/
def execLsrZp (z : Byte) (s : State) : Host.Outcome State Fault Refusal :=
  (rmwClass (.zp z) 5 lsr8 shiftNZC s).outcome

/-- `LSR` accumulator, `$4A`, 2 cycles (R167). -/
def execLsrAcc (s : State) : Host.Outcome State Fault Refusal :=
  (accClass 2 lsr8 shiftNZC s).outcome

/-- `LSR` absolute, `$4E`, 6 cycles (R167). -/
def execLsrAbs (a : Word) (s : State) : Host.Outcome State Fault Refusal :=
  (rmwClass (.abs a) 6 lsr8 shiftNZC s).outcome

/-- `LSR` zero page,X, `$56`, 6 cycles (R167). -/
def execLsrZpx (z : Byte) (s : State) : Host.Outcome State Fault Refusal :=
  (rmwClass (.zpx z) 6 lsr8 shiftNZC s).outcome

/-- `LSR` absolute,X, `$5E`, 7 cycles (R167). -/
def execLsrAbx (a : Word) (s : State) : Host.Outcome State Fault Refusal :=
  (rmwClass (.abx a) 7 lsr8 shiftNZC s).outcome

/-- `ROL` zero page, `$26`, 5 cycles (R168). -/
def execRolZp (z : Byte) (s : State) : Host.Outcome State Fault Refusal :=
  (rmwClass (.zp z) 5 rol8 shiftNZC s).outcome

/-- `ROL` accumulator, `$2A`, 2 cycles (R168). -/
def execRolAcc (s : State) : Host.Outcome State Fault Refusal :=
  (accClass 2 rol8 shiftNZC s).outcome

/-- `ROL` absolute, `$2E`, 6 cycles (R168). -/
def execRolAbs (a : Word) (s : State) : Host.Outcome State Fault Refusal :=
  (rmwClass (.abs a) 6 rol8 shiftNZC s).outcome

/-- `ROL` zero page,X, `$36`, 6 cycles (R168). -/
def execRolZpx (z : Byte) (s : State) : Host.Outcome State Fault Refusal :=
  (rmwClass (.zpx z) 6 rol8 shiftNZC s).outcome

/-- `ROL` absolute,X, `$3E`, 7 cycles (R168). -/
def execRolAbx (a : Word) (s : State) : Host.Outcome State Fault Refusal :=
  (rmwClass (.abx a) 7 rol8 shiftNZC s).outcome

/-- `ROR` zero page, `$66`, 5 cycles (R169). -/
def execRorZp (z : Byte) (s : State) : Host.Outcome State Fault Refusal :=
  (rmwClass (.zp z) 5 ror8 shiftNZC s).outcome

/-- `ROR` accumulator, `$6A`, 2 cycles (R169). -/
def execRorAcc (s : State) : Host.Outcome State Fault Refusal :=
  (accClass 2 ror8 shiftNZC s).outcome

/-- `ROR` absolute, `$6E`, 6 cycles (R169). -/
def execRorAbs (a : Word) (s : State) : Host.Outcome State Fault Refusal :=
  (rmwClass (.abs a) 6 ror8 shiftNZC s).outcome

/-- `ROR` zero page,X, `$76`, 6 cycles (R169). -/
def execRorZpx (z : Byte) (s : State) : Host.Outcome State Fault Refusal :=
  (rmwClass (.zpx z) 6 ror8 shiftNZC s).outcome

/-- `ROR` absolute,X, `$7E`, 7 cycles (R169). -/
def execRorAbx (a : Word) (s : State) : Host.Outcome State Fault Refusal :=
  (rmwClass (.abx a) 7 ror8 shiftNZC s).outcome

end Sys2Proof.Machine
end

