-- ==== Sys2Proof/Machine/Control.lean ====
section
/-! DEFINITION. Jumps, calls, returns, branches, flag instructions and NOP (spec/42_control_flow_flags.md): one meaning per opcode row,
each over the shared operations of Machine/Operands.lean. The state a meaning starts from has `pc` past the
operand bytes that `fetchInstr` read (R12, R82). -/

namespace Sys2Proof.Machine

/-- `JMP` absolute, `$4C`, 3 cycles (R191). -/
def execJmpAbs (a : Word) (s : State) : Host.Outcome State Fault Refusal :=
  (jumpTo a 3 s).outcome

/-- `JMP` absolute indirect, `$6C`, 5 cycles (R192). -/
def execJmpInd (a : Word) (s : State) : Host.Outcome State Fault Refusal :=
  (jumpIndirect a 5 s).outcome

/-- `JSR` absolute, `$20`, 6 cycles (R193). -/
def execJsrAbs (a : Word) (s : State) : Host.Outcome State Fault Refusal :=
  (callTo a 6 s).outcome

/-- `RTS` implied, `$60`, 6 cycles (R194). -/
def execRts (s : State) : Host.Outcome State Fault Refusal :=
  (implied 6 rts s).outcome

/-- `RTI` implied, `$40`, 6 cycles (R195). -/
def execRti (s : State) : Host.Outcome State Fault Refusal :=
  (implied 6 returnFromInterrupt s).outcome

/-- `BRK` implied, `$00`, 7 cycles (R196). -/
def execBrk (s : State) : Host.Outcome State Fault Refusal :=
  (implied 7 brkEntry s).outcome

/-- `BPL` relative, `$10`, 2 cycles+ (R198). -/
def execBpl (off : Int) (s : State) : Host.Outcome State Fault Refusal :=
  (branch (!s.n) off s).outcome

/-- `BMI` relative, `$30`, 2 cycles+ (R199). -/
def execBmi (off : Int) (s : State) : Host.Outcome State Fault Refusal :=
  (branch s.n off s).outcome

/-- `BVC` relative, `$50`, 2 cycles+ (R200). -/
def execBvc (off : Int) (s : State) : Host.Outcome State Fault Refusal :=
  (branch (!s.v) off s).outcome

/-- `BVS` relative, `$70`, 2 cycles+ (R201). -/
def execBvs (off : Int) (s : State) : Host.Outcome State Fault Refusal :=
  (branch s.v off s).outcome

/-- `BCC` relative, `$90`, 2 cycles+ (R202). -/
def execBcc (off : Int) (s : State) : Host.Outcome State Fault Refusal :=
  (branch (!s.c) off s).outcome

/-- `BCS` relative, `$B0`, 2 cycles+ (R203). -/
def execBcs (off : Int) (s : State) : Host.Outcome State Fault Refusal :=
  (branch s.c off s).outcome

/-- `BNE` relative, `$D0`, 2 cycles+ (R204). -/
def execBne (off : Int) (s : State) : Host.Outcome State Fault Refusal :=
  (branch (!s.z) off s).outcome

/-- `BEQ` relative, `$F0`, 2 cycles+ (R205). -/
def execBeq (off : Int) (s : State) : Host.Outcome State Fault Refusal :=
  (branch s.z off s).outcome

/-- `CLC` implied, `$18`, 2 cycles (R206). -/
def execClc (s : State) : Host.Outcome State Fault Refusal :=
  (implied 2 clc s).outcome

/-- `SEC` implied, `$38`, 2 cycles (R207). -/
def execSec (s : State) : Host.Outcome State Fault Refusal :=
  (implied 2 sec s).outcome

/-- `CLI` implied, `$58`, 2 cycles (R208). -/
def execCli (s : State) : Host.Outcome State Fault Refusal :=
  (implied 2 cli s).outcome

/-- `SEI` implied, `$78`, 2 cycles (R209). -/
def execSei (s : State) : Host.Outcome State Fault Refusal :=
  (implied 2 sei s).outcome

/-- `CLV` implied, `$B8`, 2 cycles (R210). -/
def execClv (s : State) : Host.Outcome State Fault Refusal :=
  (implied 2 clv s).outcome

/-- `CLD` implied, `$D8`, 2 cycles (R211). -/
def execCld (s : State) : Host.Outcome State Fault Refusal :=
  (implied 2 cld s).outcome

/-- `SED` implied, `$F8`, 2 cycles (R212). -/
def execSed (s : State) : Host.Outcome State Fault Refusal :=
  (implied 2 sed s).outcome

/-- `NOP` implied, `$EA`, 2 cycles (R213). -/
def execNop (s : State) : Host.Outcome State Fault Refusal :=
  (implied 2 id s).outcome

end Sys2Proof.Machine
end

