-- ==== Sys2Proof/Machine/LoadStore.lean ====
section
/-! DEFINITION. Loads, stores, register transfers and stack instructions (spec/40_load_store_transfer.md): one meaning per opcode row,
each over the shared operations of Machine/Operands.lean. The state a meaning starts from has `pc` past the
operand bytes that `fetchInstr` read (R12, R82). -/

namespace Sys2Proof.Machine

/-- `LDA` (zero page,X), `$A1`, 6 cycles (R121). -/
def execLdaIzx (z : Byte) (s : State) : Host.Outcome State Fault Refusal :=
  (readClass (.mem (.izx z)) 6 loadA s).outcome

/-- `LDA` zero page, `$A5`, 3 cycles (R121). -/
def execLdaZp (z : Byte) (s : State) : Host.Outcome State Fault Refusal :=
  (readClass (.mem (.zp z)) 3 loadA s).outcome

/-- `LDA` immediate, `$A9`, 2 cycles (R121). -/
def execLdaImm (v : Byte) (s : State) : Host.Outcome State Fault Refusal :=
  (readClass (.imm v) 2 loadA s).outcome

/-- `LDA` absolute, `$AD`, 4 cycles (R121). -/
def execLdaAbs (a : Word) (s : State) : Host.Outcome State Fault Refusal :=
  (readClass (.mem (.abs a)) 4 loadA s).outcome

/-- `LDA` (zero page),Y, `$B1`, 5 cycles* (R121). -/
def execLdaIzy (z : Byte) (s : State) : Host.Outcome State Fault Refusal :=
  (readClass (.mem (.izy z)) 5 loadA s).outcome

/-- `LDA` zero page,X, `$B5`, 4 cycles (R121). -/
def execLdaZpx (z : Byte) (s : State) : Host.Outcome State Fault Refusal :=
  (readClass (.mem (.zpx z)) 4 loadA s).outcome

/-- `LDA` absolute,Y, `$B9`, 4 cycles* (R121). -/
def execLdaAby (a : Word) (s : State) : Host.Outcome State Fault Refusal :=
  (readClass (.mem (.aby a)) 4 loadA s).outcome

/-- `LDA` absolute,X, `$BD`, 4 cycles* (R121). -/
def execLdaAbx (a : Word) (s : State) : Host.Outcome State Fault Refusal :=
  (readClass (.mem (.abx a)) 4 loadA s).outcome

/-- `LDX` immediate, `$A2`, 2 cycles (R122). -/
def execLdxImm (v : Byte) (s : State) : Host.Outcome State Fault Refusal :=
  (readClass (.imm v) 2 loadX s).outcome

/-- `LDX` zero page, `$A6`, 3 cycles (R122). -/
def execLdxZp (z : Byte) (s : State) : Host.Outcome State Fault Refusal :=
  (readClass (.mem (.zp z)) 3 loadX s).outcome

/-- `LDX` absolute, `$AE`, 4 cycles (R122). -/
def execLdxAbs (a : Word) (s : State) : Host.Outcome State Fault Refusal :=
  (readClass (.mem (.abs a)) 4 loadX s).outcome

/-- `LDX` zero page,Y, `$B6`, 4 cycles (R122). -/
def execLdxZpy (z : Byte) (s : State) : Host.Outcome State Fault Refusal :=
  (readClass (.mem (.zpy z)) 4 loadX s).outcome

/-- `LDX` absolute,Y, `$BE`, 4 cycles* (R122). -/
def execLdxAby (a : Word) (s : State) : Host.Outcome State Fault Refusal :=
  (readClass (.mem (.aby a)) 4 loadX s).outcome

/-- `LDY` immediate, `$A0`, 2 cycles (R123). -/
def execLdyImm (v : Byte) (s : State) : Host.Outcome State Fault Refusal :=
  (readClass (.imm v) 2 loadY s).outcome

/-- `LDY` zero page, `$A4`, 3 cycles (R123). -/
def execLdyZp (z : Byte) (s : State) : Host.Outcome State Fault Refusal :=
  (readClass (.mem (.zp z)) 3 loadY s).outcome

/-- `LDY` absolute, `$AC`, 4 cycles (R123). -/
def execLdyAbs (a : Word) (s : State) : Host.Outcome State Fault Refusal :=
  (readClass (.mem (.abs a)) 4 loadY s).outcome

/-- `LDY` zero page,X, `$B4`, 4 cycles (R123). -/
def execLdyZpx (z : Byte) (s : State) : Host.Outcome State Fault Refusal :=
  (readClass (.mem (.zpx z)) 4 loadY s).outcome

/-- `LDY` absolute,X, `$BC`, 4 cycles* (R123). -/
def execLdyAbx (a : Word) (s : State) : Host.Outcome State Fault Refusal :=
  (readClass (.mem (.abx a)) 4 loadY s).outcome

/-- `STA` (zero page,X), `$81`, 6 cycles (R124). -/
def execStaIzx (z : Byte) (s : State) : Host.Outcome State Fault Refusal :=
  (storeClass (.izx z) 6 s.a s).outcome

/-- `STA` zero page, `$85`, 3 cycles (R124). -/
def execStaZp (z : Byte) (s : State) : Host.Outcome State Fault Refusal :=
  (storeClass (.zp z) 3 s.a s).outcome

/-- `STA` absolute, `$8D`, 4 cycles (R124). -/
def execStaAbs (a : Word) (s : State) : Host.Outcome State Fault Refusal :=
  (storeClass (.abs a) 4 s.a s).outcome

/-- `STA` (zero page),Y, `$91`, 6 cycles (R124). -/
def execStaIzy (z : Byte) (s : State) : Host.Outcome State Fault Refusal :=
  (storeClass (.izy z) 6 s.a s).outcome

/-- `STA` zero page,X, `$95`, 4 cycles (R124). -/
def execStaZpx (z : Byte) (s : State) : Host.Outcome State Fault Refusal :=
  (storeClass (.zpx z) 4 s.a s).outcome

/-- `STA` absolute,Y, `$99`, 5 cycles (R124). -/
def execStaAby (a : Word) (s : State) : Host.Outcome State Fault Refusal :=
  (storeClass (.aby a) 5 s.a s).outcome

/-- `STA` absolute,X, `$9D`, 5 cycles (R124). -/
def execStaAbx (a : Word) (s : State) : Host.Outcome State Fault Refusal :=
  (storeClass (.abx a) 5 s.a s).outcome

/-- `STX` zero page, `$86`, 3 cycles (R125). -/
def execStxZp (z : Byte) (s : State) : Host.Outcome State Fault Refusal :=
  (storeClass (.zp z) 3 s.x s).outcome

/-- `STX` absolute, `$8E`, 4 cycles (R125). -/
def execStxAbs (a : Word) (s : State) : Host.Outcome State Fault Refusal :=
  (storeClass (.abs a) 4 s.x s).outcome

/-- `STX` zero page,Y, `$96`, 4 cycles (R125). -/
def execStxZpy (z : Byte) (s : State) : Host.Outcome State Fault Refusal :=
  (storeClass (.zpy z) 4 s.x s).outcome

/-- `STY` zero page, `$84`, 3 cycles (R126). -/
def execStyZp (z : Byte) (s : State) : Host.Outcome State Fault Refusal :=
  (storeClass (.zp z) 3 s.y s).outcome

/-- `STY` absolute, `$8C`, 4 cycles (R126). -/
def execStyAbs (a : Word) (s : State) : Host.Outcome State Fault Refusal :=
  (storeClass (.abs a) 4 s.y s).outcome

/-- `STY` zero page,X, `$94`, 4 cycles (R126). -/
def execStyZpx (z : Byte) (s : State) : Host.Outcome State Fault Refusal :=
  (storeClass (.zpx z) 4 s.y s).outcome

/-- `TAX` implied, `$AA`, 2 cycles (R131). -/
def execTax (s : State) : Host.Outcome State Fault Refusal :=
  (implied 2 tax s).outcome

/-- `TAY` implied, `$A8`, 2 cycles (R132). -/
def execTay (s : State) : Host.Outcome State Fault Refusal :=
  (implied 2 tay s).outcome

/-- `TXA` implied, `$8A`, 2 cycles (R133). -/
def execTxa (s : State) : Host.Outcome State Fault Refusal :=
  (implied 2 txa s).outcome

/-- `TYA` implied, `$98`, 2 cycles (R134). -/
def execTya (s : State) : Host.Outcome State Fault Refusal :=
  (implied 2 tya s).outcome

/-- `TSX` implied, `$BA`, 2 cycles (R135). -/
def execTsx (s : State) : Host.Outcome State Fault Refusal :=
  (implied 2 tsx s).outcome

/-- `TXS` implied, `$9A`, 2 cycles (R137). -/
def execTxs (s : State) : Host.Outcome State Fault Refusal :=
  (implied 2 txs s).outcome

/-- `PHA` implied, `$48`, 3 cycles (R141). -/
def execPha (s : State) : Host.Outcome State Fault Refusal :=
  (implied 3 pha s).outcome

/-- `PHP` implied, `$08`, 3 cycles (R142). -/
def execPhp (s : State) : Host.Outcome State Fault Refusal :=
  (implied 3 php s).outcome

/-- `PLA` implied, `$68`, 4 cycles (R143). -/
def execPla (s : State) : Host.Outcome State Fault Refusal :=
  (implied 4 pla s).outcome

/-- `PLP` implied, `$28`, 4 cycles (R144). -/
def execPlp (s : State) : Host.Outcome State Fault Refusal :=
  (implied 4 plp s).outcome

end Sys2Proof.Machine
end

