-- ==== Sys2Proof/Machine/Stubs.lean ====
section
/-! DEFINITION. The stub opcodes (spec/43_undocumented.md section 5): one meaning per opcode row,
each over the shared operations of Machine/Operands.lean. The state a meaning starts from has `pc` past the
operand bytes that `fetchInstr` read (R12, R82). -/

namespace Sys2Proof.Machine

/-- `JAM` implied, `$02` (R261). -/
def execJam02 (s : State) : Host.Outcome State Fault Refusal :=
  stub 0x02 s

/-- `JAM` implied, `$12` (R261). -/
def execJam12 (s : State) : Host.Outcome State Fault Refusal :=
  stub 0x12 s

/-- `JAM` implied, `$22` (R261). -/
def execJam22 (s : State) : Host.Outcome State Fault Refusal :=
  stub 0x22 s

/-- `JAM` implied, `$32` (R261). -/
def execJam32 (s : State) : Host.Outcome State Fault Refusal :=
  stub 0x32 s

/-- `JAM` implied, `$42` (R261). -/
def execJam42 (s : State) : Host.Outcome State Fault Refusal :=
  stub 0x42 s

/-- `JAM` implied, `$52` (R261). -/
def execJam52 (s : State) : Host.Outcome State Fault Refusal :=
  stub 0x52 s

/-- `JAM` implied, `$62` (R261). -/
def execJam62 (s : State) : Host.Outcome State Fault Refusal :=
  stub 0x62 s

/-- `JAM` implied, `$72` (R261). -/
def execJam72 (s : State) : Host.Outcome State Fault Refusal :=
  stub 0x72 s

/-- `JAM` implied, `$92` (R261). -/
def execJam92 (s : State) : Host.Outcome State Fault Refusal :=
  stub 0x92 s

/-- `JAM` implied, `$B2` (R261). -/
def execJamB2 (s : State) : Host.Outcome State Fault Refusal :=
  stub 0xB2 s

/-- `JAM` implied, `$D2` (R261). -/
def execJamD2 (s : State) : Host.Outcome State Fault Refusal :=
  stub 0xD2 s

/-- `JAM` implied, `$F2` (R261). -/
def execJamF2 (s : State) : Host.Outcome State Fault Refusal :=
  stub 0xF2 s

/-- `ANE` immediate, `$8B` (R262). -/
def execAneImm (s : State) : Host.Outcome State Fault Refusal :=
  stub 0x8B s

/-- `LXA` immediate, `$AB` (R263). -/
def execLxaImm (s : State) : Host.Outcome State Fault Refusal :=
  stub 0xAB s

/-- `SHA` (zero page),Y, `$93` (R264). -/
def execShaIzy (s : State) : Host.Outcome State Fault Refusal :=
  stub 0x93 s

/-- `SHA` absolute,Y, `$9F` (R264). -/
def execShaAby (s : State) : Host.Outcome State Fault Refusal :=
  stub 0x9F s

/-- `SHX` absolute,Y, `$9E` (R265). -/
def execShxAby (s : State) : Host.Outcome State Fault Refusal :=
  stub 0x9E s

/-- `SHY` absolute,X, `$9C` (R266). -/
def execShyAbx (s : State) : Host.Outcome State Fault Refusal :=
  stub 0x9C s

/-- `TAS` absolute,Y, `$9B` (R267). -/
def execTasAby (s : State) : Host.Outcome State Fault Refusal :=
  stub 0x9B s

/-- `LAS` absolute,Y, `$BB` (R268). -/
def execLasAby (s : State) : Host.Outcome State Fault Refusal :=
  stub 0xBB s

end Sys2Proof.Machine
end

