-- ==== Sys2Proof/Machine/Undocumented.lean ====
section
/-! DEFINITION. Undocumented combined operations and no-op variants (spec/43_undocumented.md sections 1 to 4): one meaning per opcode row,
each over the shared operations of Machine/Operands.lean. The state a meaning starts from has `pc` past the
operand bytes that `fetchInstr` read (R12, R82). -/

namespace Sys2Proof.Machine

/-- `SLO` (zero page,X), `$03`, 8 cycles (R231). -/
def execSloIzx (z : Byte) (s : State) : Host.Outcome State Fault Refusal :=
  (rmwClass (.izx z) 8 asl8 sloA s).outcome

/-- `SLO` zero page, `$07`, 5 cycles (R231). -/
def execSloZp (z : Byte) (s : State) : Host.Outcome State Fault Refusal :=
  (rmwClass (.zp z) 5 asl8 sloA s).outcome

/-- `SLO` absolute, `$0F`, 6 cycles (R231). -/
def execSloAbs (a : Word) (s : State) : Host.Outcome State Fault Refusal :=
  (rmwClass (.abs a) 6 asl8 sloA s).outcome

/-- `SLO` (zero page),Y, `$13`, 8 cycles (R231). -/
def execSloIzy (z : Byte) (s : State) : Host.Outcome State Fault Refusal :=
  (rmwClass (.izy z) 8 asl8 sloA s).outcome

/-- `SLO` zero page,X, `$17`, 6 cycles (R231). -/
def execSloZpx (z : Byte) (s : State) : Host.Outcome State Fault Refusal :=
  (rmwClass (.zpx z) 6 asl8 sloA s).outcome

/-- `SLO` absolute,Y, `$1B`, 7 cycles (R231). -/
def execSloAby (a : Word) (s : State) : Host.Outcome State Fault Refusal :=
  (rmwClass (.aby a) 7 asl8 sloA s).outcome

/-- `SLO` absolute,X, `$1F`, 7 cycles (R231). -/
def execSloAbx (a : Word) (s : State) : Host.Outcome State Fault Refusal :=
  (rmwClass (.abx a) 7 asl8 sloA s).outcome

/-- `RLA` (zero page,X), `$23`, 8 cycles (R232). -/
def execRlaIzx (z : Byte) (s : State) : Host.Outcome State Fault Refusal :=
  (rmwClass (.izx z) 8 rol8 rlaA s).outcome

/-- `RLA` zero page, `$27`, 5 cycles (R232). -/
def execRlaZp (z : Byte) (s : State) : Host.Outcome State Fault Refusal :=
  (rmwClass (.zp z) 5 rol8 rlaA s).outcome

/-- `RLA` absolute, `$2F`, 6 cycles (R232). -/
def execRlaAbs (a : Word) (s : State) : Host.Outcome State Fault Refusal :=
  (rmwClass (.abs a) 6 rol8 rlaA s).outcome

/-- `RLA` (zero page),Y, `$33`, 8 cycles (R232). -/
def execRlaIzy (z : Byte) (s : State) : Host.Outcome State Fault Refusal :=
  (rmwClass (.izy z) 8 rol8 rlaA s).outcome

/-- `RLA` zero page,X, `$37`, 6 cycles (R232). -/
def execRlaZpx (z : Byte) (s : State) : Host.Outcome State Fault Refusal :=
  (rmwClass (.zpx z) 6 rol8 rlaA s).outcome

/-- `RLA` absolute,Y, `$3B`, 7 cycles (R232). -/
def execRlaAby (a : Word) (s : State) : Host.Outcome State Fault Refusal :=
  (rmwClass (.aby a) 7 rol8 rlaA s).outcome

/-- `RLA` absolute,X, `$3F`, 7 cycles (R232). -/
def execRlaAbx (a : Word) (s : State) : Host.Outcome State Fault Refusal :=
  (rmwClass (.abx a) 7 rol8 rlaA s).outcome

/-- `SRE` (zero page,X), `$43`, 8 cycles (R233). -/
def execSreIzx (z : Byte) (s : State) : Host.Outcome State Fault Refusal :=
  (rmwClass (.izx z) 8 lsr8 sreA s).outcome

/-- `SRE` zero page, `$47`, 5 cycles (R233). -/
def execSreZp (z : Byte) (s : State) : Host.Outcome State Fault Refusal :=
  (rmwClass (.zp z) 5 lsr8 sreA s).outcome

/-- `SRE` absolute, `$4F`, 6 cycles (R233). -/
def execSreAbs (a : Word) (s : State) : Host.Outcome State Fault Refusal :=
  (rmwClass (.abs a) 6 lsr8 sreA s).outcome

/-- `SRE` (zero page),Y, `$53`, 8 cycles (R233). -/
def execSreIzy (z : Byte) (s : State) : Host.Outcome State Fault Refusal :=
  (rmwClass (.izy z) 8 lsr8 sreA s).outcome

/-- `SRE` zero page,X, `$57`, 6 cycles (R233). -/
def execSreZpx (z : Byte) (s : State) : Host.Outcome State Fault Refusal :=
  (rmwClass (.zpx z) 6 lsr8 sreA s).outcome

/-- `SRE` absolute,Y, `$5B`, 7 cycles (R233). -/
def execSreAby (a : Word) (s : State) : Host.Outcome State Fault Refusal :=
  (rmwClass (.aby a) 7 lsr8 sreA s).outcome

/-- `SRE` absolute,X, `$5F`, 7 cycles (R233). -/
def execSreAbx (a : Word) (s : State) : Host.Outcome State Fault Refusal :=
  (rmwClass (.abx a) 7 lsr8 sreA s).outcome

/-- `RRA` (zero page,X), `$63`, 8 cycles (R234). -/
def execRraIzx (z : Byte) (s : State) : Host.Outcome State Fault Refusal :=
  (rmwClass (.izx z) 8 ror8 rraA s).outcome

/-- `RRA` zero page, `$67`, 5 cycles (R234). -/
def execRraZp (z : Byte) (s : State) : Host.Outcome State Fault Refusal :=
  (rmwClass (.zp z) 5 ror8 rraA s).outcome

/-- `RRA` absolute, `$6F`, 6 cycles (R234). -/
def execRraAbs (a : Word) (s : State) : Host.Outcome State Fault Refusal :=
  (rmwClass (.abs a) 6 ror8 rraA s).outcome

/-- `RRA` (zero page),Y, `$73`, 8 cycles (R234). -/
def execRraIzy (z : Byte) (s : State) : Host.Outcome State Fault Refusal :=
  (rmwClass (.izy z) 8 ror8 rraA s).outcome

/-- `RRA` zero page,X, `$77`, 6 cycles (R234). -/
def execRraZpx (z : Byte) (s : State) : Host.Outcome State Fault Refusal :=
  (rmwClass (.zpx z) 6 ror8 rraA s).outcome

/-- `RRA` absolute,Y, `$7B`, 7 cycles (R234). -/
def execRraAby (a : Word) (s : State) : Host.Outcome State Fault Refusal :=
  (rmwClass (.aby a) 7 ror8 rraA s).outcome

/-- `RRA` absolute,X, `$7F`, 7 cycles (R234). -/
def execRraAbx (a : Word) (s : State) : Host.Outcome State Fault Refusal :=
  (rmwClass (.abx a) 7 ror8 rraA s).outcome

/-- `DCP` (zero page,X), `$C3`, 8 cycles (R237). -/
def execDcpIzx (z : Byte) (s : State) : Host.Outcome State Fault Refusal :=
  (rmwClass (.izx z) 8 dec8 dcpA s).outcome

/-- `DCP` zero page, `$C7`, 5 cycles (R237). -/
def execDcpZp (z : Byte) (s : State) : Host.Outcome State Fault Refusal :=
  (rmwClass (.zp z) 5 dec8 dcpA s).outcome

/-- `DCP` absolute, `$CF`, 6 cycles (R237). -/
def execDcpAbs (a : Word) (s : State) : Host.Outcome State Fault Refusal :=
  (rmwClass (.abs a) 6 dec8 dcpA s).outcome

/-- `DCP` (zero page),Y, `$D3`, 8 cycles (R237). -/
def execDcpIzy (z : Byte) (s : State) : Host.Outcome State Fault Refusal :=
  (rmwClass (.izy z) 8 dec8 dcpA s).outcome

/-- `DCP` zero page,X, `$D7`, 6 cycles (R237). -/
def execDcpZpx (z : Byte) (s : State) : Host.Outcome State Fault Refusal :=
  (rmwClass (.zpx z) 6 dec8 dcpA s).outcome

/-- `DCP` absolute,Y, `$DB`, 7 cycles (R237). -/
def execDcpAby (a : Word) (s : State) : Host.Outcome State Fault Refusal :=
  (rmwClass (.aby a) 7 dec8 dcpA s).outcome

/-- `DCP` absolute,X, `$DF`, 7 cycles (R237). -/
def execDcpAbx (a : Word) (s : State) : Host.Outcome State Fault Refusal :=
  (rmwClass (.abx a) 7 dec8 dcpA s).outcome

/-- `ISC` (zero page,X), `$E3`, 8 cycles (R238). -/
def execIscIzx (z : Byte) (s : State) : Host.Outcome State Fault Refusal :=
  (rmwClass (.izx z) 8 inc8 iscA s).outcome

/-- `ISC` zero page, `$E7`, 5 cycles (R238). -/
def execIscZp (z : Byte) (s : State) : Host.Outcome State Fault Refusal :=
  (rmwClass (.zp z) 5 inc8 iscA s).outcome

/-- `ISC` absolute, `$EF`, 6 cycles (R238). -/
def execIscAbs (a : Word) (s : State) : Host.Outcome State Fault Refusal :=
  (rmwClass (.abs a) 6 inc8 iscA s).outcome

/-- `ISC` (zero page),Y, `$F3`, 8 cycles (R238). -/
def execIscIzy (z : Byte) (s : State) : Host.Outcome State Fault Refusal :=
  (rmwClass (.izy z) 8 inc8 iscA s).outcome

/-- `ISC` zero page,X, `$F7`, 6 cycles (R238). -/
def execIscZpx (z : Byte) (s : State) : Host.Outcome State Fault Refusal :=
  (rmwClass (.zpx z) 6 inc8 iscA s).outcome

/-- `ISC` absolute,Y, `$FB`, 7 cycles (R238). -/
def execIscAby (a : Word) (s : State) : Host.Outcome State Fault Refusal :=
  (rmwClass (.aby a) 7 inc8 iscA s).outcome

/-- `ISC` absolute,X, `$FF`, 7 cycles (R238). -/
def execIscAbx (a : Word) (s : State) : Host.Outcome State Fault Refusal :=
  (rmwClass (.abx a) 7 inc8 iscA s).outcome

/-- `SAX` (zero page,X), `$83`, 6 cycles (R235). -/
def execSaxIzx (z : Byte) (s : State) : Host.Outcome State Fault Refusal :=
  (storeClass (.izx z) 6 (s.a &&& s.x) s).outcome

/-- `SAX` zero page, `$87`, 3 cycles (R235). -/
def execSaxZp (z : Byte) (s : State) : Host.Outcome State Fault Refusal :=
  (storeClass (.zp z) 3 (s.a &&& s.x) s).outcome

/-- `SAX` absolute, `$8F`, 4 cycles (R235). -/
def execSaxAbs (a : Word) (s : State) : Host.Outcome State Fault Refusal :=
  (storeClass (.abs a) 4 (s.a &&& s.x) s).outcome

/-- `SAX` zero page,Y, `$97`, 4 cycles (R235). -/
def execSaxZpy (z : Byte) (s : State) : Host.Outcome State Fault Refusal :=
  (storeClass (.zpy z) 4 (s.a &&& s.x) s).outcome

/-- `LAX` (zero page,X), `$A3`, 6 cycles (R236). -/
def execLaxIzx (z : Byte) (s : State) : Host.Outcome State Fault Refusal :=
  (readClass (.mem (.izx z)) 6 loadAX s).outcome

/-- `LAX` zero page, `$A7`, 3 cycles (R236). -/
def execLaxZp (z : Byte) (s : State) : Host.Outcome State Fault Refusal :=
  (readClass (.mem (.zp z)) 3 loadAX s).outcome

/-- `LAX` absolute, `$AF`, 4 cycles (R236). -/
def execLaxAbs (a : Word) (s : State) : Host.Outcome State Fault Refusal :=
  (readClass (.mem (.abs a)) 4 loadAX s).outcome

/-- `LAX` (zero page),Y, `$B3`, 5 cycles* (R236). -/
def execLaxIzy (z : Byte) (s : State) : Host.Outcome State Fault Refusal :=
  (readClass (.mem (.izy z)) 5 loadAX s).outcome

/-- `LAX` zero page,Y, `$B7`, 4 cycles (R236). -/
def execLaxZpy (z : Byte) (s : State) : Host.Outcome State Fault Refusal :=
  (readClass (.mem (.zpy z)) 4 loadAX s).outcome

/-- `LAX` absolute,Y, `$BF`, 4 cycles* (R236). -/
def execLaxAby (a : Word) (s : State) : Host.Outcome State Fault Refusal :=
  (readClass (.mem (.aby a)) 4 loadAX s).outcome

/-- `ANC` immediate, `$0B`, 2 cycles (R239). -/
def execAncImm0B (v : Byte) (s : State) : Host.Outcome State Fault Refusal :=
  (readClass (.imm v) 2 anc s).outcome

/-- `ANC` immediate, `$2B`, 2 cycles (R239). -/
def execAncImm2B (v : Byte) (s : State) : Host.Outcome State Fault Refusal :=
  (readClass (.imm v) 2 anc s).outcome

/-- `ALR` immediate, `$4B`, 2 cycles (R240). -/
def execAlrImm (v : Byte) (s : State) : Host.Outcome State Fault Refusal :=
  (readClass (.imm v) 2 alr s).outcome

/-- `ARR` immediate, `$6B`, 2 cycles (R251). -/
def execArrImm (v : Byte) (s : State) : Host.Outcome State Fault Refusal :=
  (readClass (.imm v) 2 arr s).outcome

/-- `SBX` immediate, `$CB`, 2 cycles (R242). -/
def execSbxImm (v : Byte) (s : State) : Host.Outcome State Fault Refusal :=
  (readClass (.imm v) 2 sbx s).outcome

/-- `SBC` immediate, `$EB`, 2 cycles (R243). -/
def execSbcImmEB (v : Byte) (s : State) : Host.Outcome State Fault Refusal :=
  (readClass (.imm v) 2 sbc s).outcome

/-- `NOP` zero page, `$04`, 3 cycles (R246). -/
def execNopZp04 (z : Byte) (s : State) : Host.Outcome State Fault Refusal :=
  (readClass (.mem (.zp z)) 3 nopRead s).outcome

/-- `NOP` absolute, `$0C`, 4 cycles (R246). -/
def execNopAbs0C (a : Word) (s : State) : Host.Outcome State Fault Refusal :=
  (readClass (.mem (.abs a)) 4 nopRead s).outcome

/-- `NOP` zero page,X, `$14`, 4 cycles (R246). -/
def execNopZpx14 (z : Byte) (s : State) : Host.Outcome State Fault Refusal :=
  (readClass (.mem (.zpx z)) 4 nopRead s).outcome

/-- `NOP` implied, `$1A`, 2 cycles (R244). -/
def execNopImp1A (s : State) : Host.Outcome State Fault Refusal :=
  (implied 2 id s).outcome

/-- `NOP` absolute,X, `$1C`, 4 cycles* (R246). -/
def execNopAbx1C (a : Word) (s : State) : Host.Outcome State Fault Refusal :=
  (readClass (.mem (.abx a)) 4 nopRead s).outcome

/-- `NOP` zero page,X, `$34`, 4 cycles (R246). -/
def execNopZpx34 (z : Byte) (s : State) : Host.Outcome State Fault Refusal :=
  (readClass (.mem (.zpx z)) 4 nopRead s).outcome

/-- `NOP` implied, `$3A`, 2 cycles (R244). -/
def execNopImp3A (s : State) : Host.Outcome State Fault Refusal :=
  (implied 2 id s).outcome

/-- `NOP` absolute,X, `$3C`, 4 cycles* (R246). -/
def execNopAbx3C (a : Word) (s : State) : Host.Outcome State Fault Refusal :=
  (readClass (.mem (.abx a)) 4 nopRead s).outcome

/-- `NOP` zero page, `$44`, 3 cycles (R246). -/
def execNopZp44 (z : Byte) (s : State) : Host.Outcome State Fault Refusal :=
  (readClass (.mem (.zp z)) 3 nopRead s).outcome

/-- `NOP` zero page,X, `$54`, 4 cycles (R246). -/
def execNopZpx54 (z : Byte) (s : State) : Host.Outcome State Fault Refusal :=
  (readClass (.mem (.zpx z)) 4 nopRead s).outcome

/-- `NOP` implied, `$5A`, 2 cycles (R244). -/
def execNopImp5A (s : State) : Host.Outcome State Fault Refusal :=
  (implied 2 id s).outcome

/-- `NOP` absolute,X, `$5C`, 4 cycles* (R246). -/
def execNopAbx5C (a : Word) (s : State) : Host.Outcome State Fault Refusal :=
  (readClass (.mem (.abx a)) 4 nopRead s).outcome

/-- `NOP` zero page, `$64`, 3 cycles (R246). -/
def execNopZp64 (z : Byte) (s : State) : Host.Outcome State Fault Refusal :=
  (readClass (.mem (.zp z)) 3 nopRead s).outcome

/-- `NOP` zero page,X, `$74`, 4 cycles (R246). -/
def execNopZpx74 (z : Byte) (s : State) : Host.Outcome State Fault Refusal :=
  (readClass (.mem (.zpx z)) 4 nopRead s).outcome

/-- `NOP` implied, `$7A`, 2 cycles (R244). -/
def execNopImp7A (s : State) : Host.Outcome State Fault Refusal :=
  (implied 2 id s).outcome

/-- `NOP` absolute,X, `$7C`, 4 cycles* (R246). -/
def execNopAbx7C (a : Word) (s : State) : Host.Outcome State Fault Refusal :=
  (readClass (.mem (.abx a)) 4 nopRead s).outcome

/-- `NOP` immediate, `$80`, 2 cycles (R245). -/
def execNopImm80 (v : Byte) (s : State) : Host.Outcome State Fault Refusal :=
  (readClass (.imm v) 2 nopRead s).outcome

/-- `NOP` immediate, `$82`, 2 cycles (R245). -/
def execNopImm82 (v : Byte) (s : State) : Host.Outcome State Fault Refusal :=
  (readClass (.imm v) 2 nopRead s).outcome

/-- `NOP` immediate, `$89`, 2 cycles (R245). -/
def execNopImm89 (v : Byte) (s : State) : Host.Outcome State Fault Refusal :=
  (readClass (.imm v) 2 nopRead s).outcome

/-- `NOP` immediate, `$C2`, 2 cycles (R245). -/
def execNopImmC2 (v : Byte) (s : State) : Host.Outcome State Fault Refusal :=
  (readClass (.imm v) 2 nopRead s).outcome

/-- `NOP` zero page,X, `$D4`, 4 cycles (R246). -/
def execNopZpxD4 (z : Byte) (s : State) : Host.Outcome State Fault Refusal :=
  (readClass (.mem (.zpx z)) 4 nopRead s).outcome

/-- `NOP` implied, `$DA`, 2 cycles (R244). -/
def execNopImpDA (s : State) : Host.Outcome State Fault Refusal :=
  (implied 2 id s).outcome

/-- `NOP` absolute,X, `$DC`, 4 cycles* (R246). -/
def execNopAbxDC (a : Word) (s : State) : Host.Outcome State Fault Refusal :=
  (readClass (.mem (.abx a)) 4 nopRead s).outcome

/-- `NOP` immediate, `$E2`, 2 cycles (R245). -/
def execNopImmE2 (v : Byte) (s : State) : Host.Outcome State Fault Refusal :=
  (readClass (.imm v) 2 nopRead s).outcome

/-- `NOP` zero page,X, `$F4`, 4 cycles (R246). -/
def execNopZpxF4 (z : Byte) (s : State) : Host.Outcome State Fault Refusal :=
  (readClass (.mem (.zpx z)) 4 nopRead s).outcome

/-- `NOP` implied, `$FA`, 2 cycles (R244). -/
def execNopImpFA (s : State) : Host.Outcome State Fault Refusal :=
  (implied 2 id s).outcome

/-- `NOP` absolute,X, `$FC`, 4 cycles* (R246). -/
def execNopAbxFC (a : Word) (s : State) : Host.Outcome State Fault Refusal :=
  (readClass (.mem (.abx a)) 4 nopRead s).outcome

end Sys2Proof.Machine
end

