-- ==== Sys2Proof/Machine/Driver.lean ====
section
/-! DEFINITION. What the execution driver does around an instruction (spec/47_execution_driver.md): the host's
turn, the peripheral ticks and the audio step; save and restore; and placing an instruction where the next
step fetches it. -/

namespace Sys2Proof.Machine

/-- One act of the host, between two iterations (R427, R454). -/
def applyHostAct (h : HostAct) (s : State) : State :=
  match h with
  | .idle => s
  | .buttons b0 b1 => { s with buttons0 := b0, buttons1 := b1 }
  | .reset => resetCpu s

/-- The host's turn before an iteration: its oldest act still to come, if any (R420; log 6). -/
def hostTurn (s : State) : State :=
  match s.pending with
  | [] => s
  | h :: hs => applyHostAct h { s with pending := hs }

/-- `KbdTick`: a host hook that changes no state of the core (R425). -/
def kbdTick (s : State) : State := s

/-- The ticks of one CPU cycle: three of the PPU, one of the disk, one of the keyboard (R421). -/
def cycleTicks (s : State) : State := kbdTick (diskTick (ppuTick (ppuTick (ppuTick s))))

/-- The ticks of `n` CPU cycles (R421). -/
def ticks : Nat → State → State
  | 0, s => s
  | n + 1, s => ticks n (cycleTicks s)

/-- The rest of an iteration once the instruction has run: `c0` is the counter before the interrupt check
(R421). -/
def finishIteration (c0 : Nat) (s : State) : State :=
  let n := s.cyc - c0
  apuStep n (ticks n s)

/-- Save: the whole state (R430). -/
def saveState (s : State) : State := s

/-- Restore a saved state into a machine: everything but the parameters and host inputs, which are not part of
a snapshot (R430), and the output already emitted. -/
def restoreState (saved s : State) : State :=
  { saved with cfg := s.cfg, buttons0 := s.buttons0, buttons1 := s.buttons1, pending := s.pending, out := s.out }

/-- Store a byte at an address of RAM or cartridge space. -/
def placeByte (a : Word) (w : Byte) (s : State) : State :=
  match region a with
  | .ram k => { s with ram := writeCell s.ram k w }
  | .cart k => { s with cart := writeCell s.cart k w }
  | .ppu _ | .bulkCopy | .io => s

/-- Store bytes at ascending addresses. -/
def placeBytes : Word → List Byte → State → State
  | _, [], s => s
  | a, w :: ws, s => placeBytes (a + 1) ws (placeByte a w s)

/-- The three bytes from `a` lie in RAM or cartridge space. -/
def holdsInstr (s : State) (a : Word) : Bool :=
  (storedByte s a).isSome && (storedByte s (a + 1)).isSome && (storedByte s (a + 2)).isSome

/-- Nothing diverts the next iteration from fetching at `pc`: no fatal latch, no host act, no interrupt, an
accepted configuration, and a `pc` at which an instruction can be stored. Only what does divert it is changed
(log 3). -/
def readyToFetch (s : State) : State :=
  { s with
    fatal := none, pending := [], nmiReq := false,
    i := s.i || irqLine s,
    cfg := if s.cfg.accepted then s.cfg else { s.cfg with diskPresent := false },
    pc := if holdsInstr s s.pc then s.pc else 0x8000 }

end Sys2Proof.Machine
end

