-- ==== Sys2Proof/Machine/Launch.lean ====
section
/-! DEFINITION. Launch (R426): what the host supplies beside the parameters (`RAM_INIT`, `CART_INIT`, the initial
pattern tables, `MIRRORING_INIT`, the disk bootstrap), the loader's contract for a cartridge (R56), power-on (R39),
then CPU reset (R38). -/

namespace Sys2Proof.Machine

/-- What the host hands over at a launch (R426, 00_scope.md section 4). A field left at its default stands for
nothing supplied (logs 1, 2 and 4). -/
structure Supply where
  /-- `RAM_INIT`, cells 0..2047 (R20). -/
  ramInit : Memory := []
  /-- `CART_INIT`, cells $4200..$FFFF (R21). -/
  cartInit : Memory := []
  /-- The initial pattern tables, cells 0..8191 (R39, R56). -/
  patInit : Memory := []
  /-- `MIRRORING_INIT` (R25, R56). -/
  mirroringInit : Mirroring := .horizontal
  /-- The disk bootstrap image, used when the Disk System is present (R57). -/
  bootstrap : List Byte := []
  deriving DecidableEq, Repr

/-- A parsed cartridge image: program bytes, pattern bytes if the cartridge supplies any, and header byte 6
bit 0 (R56). -/
structure Cartridge where
  program : List Byte
  pattern : List Byte
  vertical : Bool
  deriving DecidableEq, Repr

/-- The loader's contract (R56): the program at `$8000`, and a second independent copy at `$C000` when it is exactly
16 KiB; pattern bytes in the pattern tables; the mirroring flag from the header. -/
def Supply.withCartridge (k : Cartridge) (u : Supply) : Supply :=
  let m := fillCells u.cartInit 0x8000 k.program
  { u with
    cartInit := if k.program.length = 16384 then fillCells m 0xC000 k.program else m,
    patInit := fillCells u.patInit 0 k.pattern,
    mirroringInit := if k.vertical then .vertical else .horizontal }

/-- The power-on state (R39): `State.reset` before its CPU reset differs only in CPU fields that the reset sets. -/
def powerOn (p : Params) (u : Supply) : State :=
  { State.reset with
    cfg := p, ram := u.ramInit, cart := u.cartInit,
    ppu := { Ppu.powerOn with pat := u.patInit, mirror := u.mirroringInit } }

/-- The load of the disk bootstrap image at `$E000` when the Disk System is present (R57). It comes after the
cartridge's, since R57 says that it supplies the vectors (log 20). -/
def loadBootstrap (boot : List Byte) (s : State) : State :=
  if s.cfg.diskPresent then { s with cart := fillCells s.cart 0xE000 boot } else s

/-- Launch with everything the host may supply (R426). -/
def launchWith (p : Params) (u : Supply) : State := resetCpu (loadBootstrap u.bootstrap (powerOn p u))

/-- Launch with a cartridge and nothing else. -/
def launch (p : Params) (k : Cartridge) : State := launchWith p (Supply.withCartridge k {})

/-- Launch with the disk bootstrap and nothing else (R57). -/
def launchDisk (p : Params) (boot : List Byte) : State := launchWith p { bootstrap := boot }

end Sys2Proof.Machine
end

