-- ==== Sys2Proof/Machine/Step.lean ====
section
/-! DEFINITION. One step of the machine: one iteration of the execution driver (R420, R421). -/

namespace Sys2Proof.Machine

/-- One iteration. A machine whose fatal latch is set does nothing any more (R433). Otherwise the host has its
turn, at most one interrupt is entered, one instruction is fetched and run, and the peripherals are ticked for
the cycles that took. A fatal condition ends the iteration where it is raised. -/
def step (s : State) : Host.Outcome State Fault Refusal :=
  match s.fatal with
  | some f => .fault (.halted f s)
  | none =>
    if s.cfg.accepted then
      match fetchInstr (serviceInterrupts (hostTurn s)) with
      | .stop f t => .fault (.fatal f (latch f t))
      | .ok i t =>
        match exec i t with
        | .next u => .next (finishIteration (hostTurn s).cyc u)
        | .fault r => .fault r
        | .refused r => .refused r
    else .refused .badConfiguration

/-- `s` with a table word's bytes stored where the next step fetches its instruction. It stands for the
loading of a program from outside (log 3). -/
def State.withFetchWord (s : State) (nbits w : Nat) : State :=
  let t := readyToFetch s
  placeBytes t.pc (tableBytes nbits w) t

end Sys2Proof.Machine
end

