-- ==== Sys2Proof/Safety.lean ====
section
/-! DEFINITION. The terms that statements use: when an access raises nothing, which fatal condition it raises
otherwise, what a well-formed state is, and where an instruction stores. No meaning uses them. -/

namespace Sys2Proof.Machine

-- Accesses that raise nothing (R50, R287)

/-- The data port is within the 14-bit window, or the register is another one (R287). -/
def portOk (s : State) (r : PpuReg) : Bool := s.ppuHook && (r != .vramData || vaddrLegal s.ppu)

/-- A read of this bus address raises no fatal condition (R50, R287). -/
def readOk (s : State) (a : Word) : Bool :=
  match region a with
  | .ram _ => true
  | .cart _ => true
  | .ppu r => portOk s r
  | .bulkCopy => s.ioHook
  | .io => s.ioHook

/-- The bulk copy from this page raises no fatal condition (R48, R50, R287): a page of the pixel window reads the
data port 32 times, so the VRAM address must stay in its window up to the last of these reads. -/
def copyOk (s : State) (page : Byte) : Bool :=
  if page.toNat < 0x20 then true
  else if page.toNat < 0x40 then s.ppuHook && s.ppu.vaddr.toNat + 31 * vramStep s.ppu < 0x4000
  else if page.toNat < 0x42 then s.ioHook
  else true

/-- A write of `w` to this bus address raises no fatal condition (R48, R50, R287). -/
def writeOk (s : State) (a : Word) (w : Byte) : Bool :=
  match region a with
  | .ram _ => true
  | .cart _ => true
  | .ppu r => portOk s r
  | .bulkCopy => copyOk s w
  | .io => s.ioHook

/-- The condition that a read raises where `readOk` fails (R50, R287). -/
def accessFault (s : State) (a : Word) : Fatal :=
  match region a with
  | .ppu _ => if s.ppuHook then .vramRange s.ppu.vaddr else .noHandler a
  | .ram _ | .bulkCopy | .io | .cart _ => .noHandler a

/-- Reading the operand raises nothing. -/
def operandOk (o : Operand) (s : State) : Bool :=
  match o with
  | .acc => true
  | .imm _ => true
  | .mem m => readOk s (resolve m s).addr

/-- The one read and the one write of a read-modify-write instruction raise nothing; the byte written may decide
(a bulk copy of its page). -/
def rmwOk (m : MemOperand) (f : Byte → Bool → Shifted) (s : State) : Bool :=
  readOk s (resolve m s).addr &&
    match busRead (resolve m s).addr s with
    | .ok w t => writeOk t (resolve m s).addr (f w s.c).r
    | .stop _ _ => false

/-- The two pointer reads of `JMP` indirect raise nothing (R93). -/
def pointerOk (p : Word) (s : State) : Bool :=
  readOk s p &&
    match busRead p s with
    | .ok _ t => readOk t (pointerHigh s.cfg p)
    | .stop _ _ => false

-- Well-formed states

/-- A palette in canonical form: six-bit entries, none stored in a slot that folds onto another (R289). -/
def paletteWf (m : Memory) : Bool :=
  memoryWf 0 32 m && m.all fun c => palIndex c.1 == c.1 && c.2.toNat < 64

/-- The pixel processor's memories are in their form, its counters in range (R25, R26) and its status bits 5 to 0
clear (R273, R314). -/
def ppuWf (p : Ppu) : Bool :=
  memoryWf 0 256 p.oam && memoryWf 0 8192 p.pat && memoryWf 0 1024 p.nt0 && memoryWf 0 1024 p.nt1
    && paletteWf p.pal && (p.status &&& 0x3F) == 0
    && p.dot ≤ 340 && -1 ≤ p.scanline && p.scanline ≤ 260

/-- The frame sequencer's step is one of its mode's steps (R30, R351). -/
def apuWf (q : Apu) : Bool := q.fsStep < (if q.fsMode then 5 else 4)

/-- The private RAM holds its power-on contents (R403), the decoder is inside its block (R398), and the index is
within the image when there is one (R396). -/
def diskWf (cfg : Params) (q : Disk) : Bool :=
  q.ram == [] && q.count < blockLength q && (!cfg.diskPresent || q.index ≤ cfg.diskImage.length)

/-- A well-formed state of a machine that has been launched and not stopped: hooks installed (R22, R426), break
field clear (R15), no fatal latch (R19), memories in canonical form, every unit well formed. -/
def State.wf (s : State) : Bool :=
  s.fatal == none && s.ppuHook && s.ioHook && !s.b && s.cfg.accepted
    && memoryWf 0 0x800 s.ram && memoryWf 0x4200 0x10000 s.cart
    && ppuWf s.ppu && apuWf s.apu && diskWf s.cfg s.dsk

/-- A supply that fits its places: every memory in canonical form and in range (R20, R21, R25), the bootstrap at most
the 8 KiB that lie from `$E000` on (R57). -/
def Supply.wf (u : Supply) : Bool :=
  memoryWf 0 0x800 u.ramInit && memoryWf 0x4200 0x10000 u.cartInit && memoryWf 0 8192 u.patInit
    && u.bootstrap.length ≤ 0x2000

/-- The opcodes of `STUB_SET` (R108, R260). -/
def stubSet : List Byte :=
  [0x02, 0x12, 0x22, 0x32, 0x42, 0x52, 0x62, 0x72, 0x92, 0xB2, 0xD2, 0xF2, 0x8B, 0xAB, 0x93, 0x9F, 0x9E, 0x9C,
   0x9B, 0xBB]

/-- The stops that a launched machine can come to: a stub opcode that no hook takes, or the data port out of its
window. The third kind of R441, an access with no handler, "never occurs" then (R50). -/
def Fatal.afterLaunch : Fatal → Bool
  | .noHandler _ => false
  | .noOpcodeHandler op _ => stubSet.contains op
  | .vramRange v => 0x4000 ≤ v.toNat

/-- A safe run of one step: the step answers a next state. -/
def safeStep (s : State) : Bool :=
  match step s with
  | .next _ => true
  | .fault _ => false
  | .refused _ => false

end Sys2Proof.Machine
end

