-- ==== Sys2Proof/Forms.lean ====
section
/-! DEFINITION. The operand lists of the instruction rules (the "Operands:" part of R121 to R126, R151 to R169 and
R231 to R246) as data, and what it means that an instruction follows its rule. Statements are written with these;
no meaning uses them. `b` stands for the operand byte, `a` for the operand word. -/

namespace Sys2Proof.Forms

open Sys2Proof.Machine

/-- One entry `mode $op cycles` of a read instruction's operand list; `penalty` is the list's `*` (R103). -/
structure ReadForm where
  op : Byte
  instr : Instr
  operand : Operand
  cycles : Nat
  penalty : Bool

/-- One entry of the operand list of a store or a read-modify-write instruction. -/
structure MemForm where
  op : Byte
  instr : Instr
  dest : MemOperand
  cycles : Nat

/-- `LDA` (R121). -/
def ldaForms (b : Byte) (a : Word) : List ReadForm :=
  [{ op := 0xA1, instr := .ldaIzx b, operand := .mem (.izx b), cycles := 6, penalty := false },
   { op := 0xA5, instr := .ldaZp b, operand := .mem (.zp b), cycles := 3, penalty := false },
   { op := 0xA9, instr := .ldaImm b, operand := .imm b, cycles := 2, penalty := false },
   { op := 0xAD, instr := .ldaAbs a, operand := .mem (.abs a), cycles := 4, penalty := false },
   { op := 0xB1, instr := .ldaIzy b, operand := .mem (.izy b), cycles := 5, penalty := true },
   { op := 0xB5, instr := .ldaZpx b, operand := .mem (.zpx b), cycles := 4, penalty := false },
   { op := 0xB9, instr := .ldaAby a, operand := .mem (.aby a), cycles := 4, penalty := true },
   { op := 0xBD, instr := .ldaAbx a, operand := .mem (.abx a), cycles := 4, penalty := true }]

/-- `LDX` (R122). -/
def ldxForms (b : Byte) (a : Word) : List ReadForm :=
  [{ op := 0xA2, instr := .ldxImm b, operand := .imm b, cycles := 2, penalty := false },
   { op := 0xA6, instr := .ldxZp b, operand := .mem (.zp b), cycles := 3, penalty := false },
   { op := 0xAE, instr := .ldxAbs a, operand := .mem (.abs a), cycles := 4, penalty := false },
   { op := 0xB6, instr := .ldxZpy b, operand := .mem (.zpy b), cycles := 4, penalty := false },
   { op := 0xBE, instr := .ldxAby a, operand := .mem (.aby a), cycles := 4, penalty := true }]

/-- `LDY` (R123). -/
def ldyForms (b : Byte) (a : Word) : List ReadForm :=
  [{ op := 0xA0, instr := .ldyImm b, operand := .imm b, cycles := 2, penalty := false },
   { op := 0xA4, instr := .ldyZp b, operand := .mem (.zp b), cycles := 3, penalty := false },
   { op := 0xAC, instr := .ldyAbs a, operand := .mem (.abs a), cycles := 4, penalty := false },
   { op := 0xB4, instr := .ldyZpx b, operand := .mem (.zpx b), cycles := 4, penalty := false },
   { op := 0xBC, instr := .ldyAbx a, operand := .mem (.abx a), cycles := 4, penalty := true }]

/-- `LAX` (R236). -/
def laxForms (b : Byte) (a : Word) : List ReadForm :=
  [{ op := 0xA3, instr := .laxIzx b, operand := .mem (.izx b), cycles := 6, penalty := false },
   { op := 0xA7, instr := .laxZp b, operand := .mem (.zp b), cycles := 3, penalty := false },
   { op := 0xAF, instr := .laxAbs a, operand := .mem (.abs a), cycles := 4, penalty := false },
   { op := 0xB3, instr := .laxIzy b, operand := .mem (.izy b), cycles := 5, penalty := true },
   { op := 0xB7, instr := .laxZpy b, operand := .mem (.zpy b), cycles := 4, penalty := false },
   { op := 0xBF, instr := .laxAby a, operand := .mem (.aby a), cycles := 4, penalty := true }]

/-- `ADC` (R151). -/
def adcForms (b : Byte) (a : Word) : List ReadForm :=
  [{ op := 0x61, instr := .adcIzx b, operand := .mem (.izx b), cycles := 6, penalty := false },
   { op := 0x65, instr := .adcZp b, operand := .mem (.zp b), cycles := 3, penalty := false },
   { op := 0x69, instr := .adcImm b, operand := .imm b, cycles := 2, penalty := false },
   { op := 0x6D, instr := .adcAbs a, operand := .mem (.abs a), cycles := 4, penalty := false },
   { op := 0x71, instr := .adcIzy b, operand := .mem (.izy b), cycles := 5, penalty := true },
   { op := 0x75, instr := .adcZpx b, operand := .mem (.zpx b), cycles := 4, penalty := false },
   { op := 0x79, instr := .adcAby a, operand := .mem (.aby a), cycles := 4, penalty := true },
   { op := 0x7D, instr := .adcAbx a, operand := .mem (.abx a), cycles := 4, penalty := true }]

/-- `SBC` (R152, R243). -/
def sbcForms (b : Byte) (a : Word) : List ReadForm :=
  [{ op := 0xE1, instr := .sbcIzx b, operand := .mem (.izx b), cycles := 6, penalty := false },
   { op := 0xE5, instr := .sbcZp b, operand := .mem (.zp b), cycles := 3, penalty := false },
   { op := 0xE9, instr := .sbcImm b, operand := .imm b, cycles := 2, penalty := false },
   { op := 0xEB, instr := .sbcImmEB b, operand := .imm b, cycles := 2, penalty := false },
   { op := 0xED, instr := .sbcAbs a, operand := .mem (.abs a), cycles := 4, penalty := false },
   { op := 0xF1, instr := .sbcIzy b, operand := .mem (.izy b), cycles := 5, penalty := true },
   { op := 0xF5, instr := .sbcZpx b, operand := .mem (.zpx b), cycles := 4, penalty := false },
   { op := 0xF9, instr := .sbcAby a, operand := .mem (.aby a), cycles := 4, penalty := true },
   { op := 0xFD, instr := .sbcAbx a, operand := .mem (.abx a), cycles := 4, penalty := true }]

/-- `AND` (R153). -/
def andForms (b : Byte) (a : Word) : List ReadForm :=
  [{ op := 0x21, instr := .andIzx b, operand := .mem (.izx b), cycles := 6, penalty := false },
   { op := 0x25, instr := .andZp b, operand := .mem (.zp b), cycles := 3, penalty := false },
   { op := 0x29, instr := .andImm b, operand := .imm b, cycles := 2, penalty := false },
   { op := 0x2D, instr := .andAbs a, operand := .mem (.abs a), cycles := 4, penalty := false },
   { op := 0x31, instr := .andIzy b, operand := .mem (.izy b), cycles := 5, penalty := true },
   { op := 0x35, instr := .andZpx b, operand := .mem (.zpx b), cycles := 4, penalty := false },
   { op := 0x39, instr := .andAby a, operand := .mem (.aby a), cycles := 4, penalty := true },
   { op := 0x3D, instr := .andAbx a, operand := .mem (.abx a), cycles := 4, penalty := true }]

/-- `ORA` (R154). -/
def oraForms (b : Byte) (a : Word) : List ReadForm :=
  [{ op := 0x01, instr := .oraIzx b, operand := .mem (.izx b), cycles := 6, penalty := false },
   { op := 0x05, instr := .oraZp b, operand := .mem (.zp b), cycles := 3, penalty := false },
   { op := 0x09, instr := .oraImm b, operand := .imm b, cycles := 2, penalty := false },
   { op := 0x0D, instr := .oraAbs a, operand := .mem (.abs a), cycles := 4, penalty := false },
   { op := 0x11, instr := .oraIzy b, operand := .mem (.izy b), cycles := 5, penalty := true },
   { op := 0x15, instr := .oraZpx b, operand := .mem (.zpx b), cycles := 4, penalty := false },
   { op := 0x19, instr := .oraAby a, operand := .mem (.aby a), cycles := 4, penalty := true },
   { op := 0x1D, instr := .oraAbx a, operand := .mem (.abx a), cycles := 4, penalty := true }]

/-- `EOR` (R155). -/
def eorForms (b : Byte) (a : Word) : List ReadForm :=
  [{ op := 0x41, instr := .eorIzx b, operand := .mem (.izx b), cycles := 6, penalty := false },
   { op := 0x45, instr := .eorZp b, operand := .mem (.zp b), cycles := 3, penalty := false },
   { op := 0x49, instr := .eorImm b, operand := .imm b, cycles := 2, penalty := false },
   { op := 0x4D, instr := .eorAbs a, operand := .mem (.abs a), cycles := 4, penalty := false },
   { op := 0x51, instr := .eorIzy b, operand := .mem (.izy b), cycles := 5, penalty := true },
   { op := 0x55, instr := .eorZpx b, operand := .mem (.zpx b), cycles := 4, penalty := false },
   { op := 0x59, instr := .eorAby a, operand := .mem (.aby a), cycles := 4, penalty := true },
   { op := 0x5D, instr := .eorAbx a, operand := .mem (.abx a), cycles := 4, penalty := true }]

/-- `BIT` (R159). -/
def bitForms (b : Byte) (a : Word) : List ReadForm :=
  [{ op := 0x24, instr := .bitZp b, operand := .mem (.zp b), cycles := 3, penalty := false },
   { op := 0x2C, instr := .bitAbs a, operand := .mem (.abs a), cycles := 4, penalty := false }]

/-- `CMP` (R156). -/
def cmpForms (b : Byte) (a : Word) : List ReadForm :=
  [{ op := 0xC1, instr := .cmpIzx b, operand := .mem (.izx b), cycles := 6, penalty := false },
   { op := 0xC5, instr := .cmpZp b, operand := .mem (.zp b), cycles := 3, penalty := false },
   { op := 0xC9, instr := .cmpImm b, operand := .imm b, cycles := 2, penalty := false },
   { op := 0xCD, instr := .cmpAbs a, operand := .mem (.abs a), cycles := 4, penalty := false },
   { op := 0xD1, instr := .cmpIzy b, operand := .mem (.izy b), cycles := 5, penalty := true },
   { op := 0xD5, instr := .cmpZpx b, operand := .mem (.zpx b), cycles := 4, penalty := false },
   { op := 0xD9, instr := .cmpAby a, operand := .mem (.aby a), cycles := 4, penalty := true },
   { op := 0xDD, instr := .cmpAbx a, operand := .mem (.abx a), cycles := 4, penalty := true }]

/-- `CPX` (R157). -/
def cpxForms (b : Byte) (a : Word) : List ReadForm :=
  [{ op := 0xE0, instr := .cpxImm b, operand := .imm b, cycles := 2, penalty := false },
   { op := 0xE4, instr := .cpxZp b, operand := .mem (.zp b), cycles := 3, penalty := false },
   { op := 0xEC, instr := .cpxAbs a, operand := .mem (.abs a), cycles := 4, penalty := false }]

/-- `CPY` (R158). -/
def cpyForms (b : Byte) (a : Word) : List ReadForm :=
  [{ op := 0xC0, instr := .cpyImm b, operand := .imm b, cycles := 2, penalty := false },
   { op := 0xC4, instr := .cpyZp b, operand := .mem (.zp b), cycles := 3, penalty := false },
   { op := 0xCC, instr := .cpyAbs a, operand := .mem (.abs a), cycles := 4, penalty := false }]

/-- `ANC` (R239). -/
def ancForms (b : Byte) (_ : Word) : List ReadForm :=
  [{ op := 0x0B, instr := .ancImm0B b, operand := .imm b, cycles := 2, penalty := false },
   { op := 0x2B, instr := .ancImm2B b, operand := .imm b, cycles := 2, penalty := false }]

/-- `ALR` (R240). -/
def alrForms (b : Byte) (_ : Word) : List ReadForm :=
  [{ op := 0x4B, instr := .alrImm b, operand := .imm b, cycles := 2, penalty := false }]

/-- `ARR` (R251). -/
def arrForms (b : Byte) (_ : Word) : List ReadForm :=
  [{ op := 0x6B, instr := .arrImm b, operand := .imm b, cycles := 2, penalty := false }]

/-- `SBX` (R242). -/
def sbxForms (b : Byte) (_ : Word) : List ReadForm :=
  [{ op := 0xCB, instr := .sbxImm b, operand := .imm b, cycles := 2, penalty := false }]

/-- `NOP` (R245, R246). -/
def nopForms (b : Byte) (a : Word) : List ReadForm :=
  [{ op := 0x04, instr := .nopZp04 b, operand := .mem (.zp b), cycles := 3, penalty := false },
   { op := 0x0C, instr := .nopAbs0C a, operand := .mem (.abs a), cycles := 4, penalty := false },
   { op := 0x14, instr := .nopZpx14 b, operand := .mem (.zpx b), cycles := 4, penalty := false },
   { op := 0x1C, instr := .nopAbx1C a, operand := .mem (.abx a), cycles := 4, penalty := true },
   { op := 0x34, instr := .nopZpx34 b, operand := .mem (.zpx b), cycles := 4, penalty := false },
   { op := 0x3C, instr := .nopAbx3C a, operand := .mem (.abx a), cycles := 4, penalty := true },
   { op := 0x44, instr := .nopZp44 b, operand := .mem (.zp b), cycles := 3, penalty := false },
   { op := 0x54, instr := .nopZpx54 b, operand := .mem (.zpx b), cycles := 4, penalty := false },
   { op := 0x5C, instr := .nopAbx5C a, operand := .mem (.abx a), cycles := 4, penalty := true },
   { op := 0x64, instr := .nopZp64 b, operand := .mem (.zp b), cycles := 3, penalty := false },
   { op := 0x74, instr := .nopZpx74 b, operand := .mem (.zpx b), cycles := 4, penalty := false },
   { op := 0x7C, instr := .nopAbx7C a, operand := .mem (.abx a), cycles := 4, penalty := true },
   { op := 0x80, instr := .nopImm80 b, operand := .imm b, cycles := 2, penalty := false },
   { op := 0x82, instr := .nopImm82 b, operand := .imm b, cycles := 2, penalty := false },
   { op := 0x89, instr := .nopImm89 b, operand := .imm b, cycles := 2, penalty := false },
   { op := 0xC2, instr := .nopImmC2 b, operand := .imm b, cycles := 2, penalty := false },
   { op := 0xD4, instr := .nopZpxD4 b, operand := .mem (.zpx b), cycles := 4, penalty := false },
   { op := 0xDC, instr := .nopAbxDC a, operand := .mem (.abx a), cycles := 4, penalty := true },
   { op := 0xE2, instr := .nopImmE2 b, operand := .imm b, cycles := 2, penalty := false },
   { op := 0xF4, instr := .nopZpxF4 b, operand := .mem (.zpx b), cycles := 4, penalty := false },
   { op := 0xFC, instr := .nopAbxFC a, operand := .mem (.abx a), cycles := 4, penalty := true }]

/-- `STA`, the memory forms (R124). -/
def staForms (b : Byte) (a : Word) : List MemForm :=
  [{ op := 0x81, instr := .staIzx b, dest := .izx b, cycles := 6 },
   { op := 0x85, instr := .staZp b, dest := .zp b, cycles := 3 },
   { op := 0x8D, instr := .staAbs a, dest := .abs a, cycles := 4 },
   { op := 0x91, instr := .staIzy b, dest := .izy b, cycles := 6 },
   { op := 0x95, instr := .staZpx b, dest := .zpx b, cycles := 4 },
   { op := 0x99, instr := .staAby a, dest := .aby a, cycles := 5 },
   { op := 0x9D, instr := .staAbx a, dest := .abx a, cycles := 5 }]

/-- `STX`, the memory forms (R125). -/
def stxForms (b : Byte) (a : Word) : List MemForm :=
  [{ op := 0x86, instr := .stxZp b, dest := .zp b, cycles := 3 },
   { op := 0x8E, instr := .stxAbs a, dest := .abs a, cycles := 4 },
   { op := 0x96, instr := .stxZpy b, dest := .zpy b, cycles := 4 }]

/-- `STY`, the memory forms (R126). -/
def styForms (b : Byte) (a : Word) : List MemForm :=
  [{ op := 0x84, instr := .styZp b, dest := .zp b, cycles := 3 },
   { op := 0x8C, instr := .styAbs a, dest := .abs a, cycles := 4 },
   { op := 0x94, instr := .styZpx b, dest := .zpx b, cycles := 4 }]

/-- `SAX`, the memory forms (R235). -/
def saxForms (b : Byte) (a : Word) : List MemForm :=
  [{ op := 0x83, instr := .saxIzx b, dest := .izx b, cycles := 6 },
   { op := 0x87, instr := .saxZp b, dest := .zp b, cycles := 3 },
   { op := 0x8F, instr := .saxAbs a, dest := .abs a, cycles := 4 },
   { op := 0x97, instr := .saxZpy b, dest := .zpy b, cycles := 4 }]

/-- `INC`, the memory forms (R160). -/
def incForms (b : Byte) (a : Word) : List MemForm :=
  [{ op := 0xE6, instr := .incZp b, dest := .zp b, cycles := 5 },
   { op := 0xEE, instr := .incAbs a, dest := .abs a, cycles := 6 },
   { op := 0xF6, instr := .incZpx b, dest := .zpx b, cycles := 6 },
   { op := 0xFE, instr := .incAbx a, dest := .abx a, cycles := 7 }]

/-- `DEC`, the memory forms (R161). -/
def decForms (b : Byte) (a : Word) : List MemForm :=
  [{ op := 0xC6, instr := .decZp b, dest := .zp b, cycles := 5 },
   { op := 0xCE, instr := .decAbs a, dest := .abs a, cycles := 6 },
   { op := 0xD6, instr := .decZpx b, dest := .zpx b, cycles := 6 },
   { op := 0xDE, instr := .decAbx a, dest := .abx a, cycles := 7 }]

/-- `ASL`, the memory forms (R166). -/
def aslForms (b : Byte) (a : Word) : List MemForm :=
  [{ op := 0x06, instr := .aslZp b, dest := .zp b, cycles := 5 },
   { op := 0x0E, instr := .aslAbs a, dest := .abs a, cycles := 6 },
   { op := 0x16, instr := .aslZpx b, dest := .zpx b, cycles := 6 },
   { op := 0x1E, instr := .aslAbx a, dest := .abx a, cycles := 7 }]

/-- `LSR`, the memory forms (R167). -/
def lsrForms (b : Byte) (a : Word) : List MemForm :=
  [{ op := 0x46, instr := .lsrZp b, dest := .zp b, cycles := 5 },
   { op := 0x4E, instr := .lsrAbs a, dest := .abs a, cycles := 6 },
   { op := 0x56, instr := .lsrZpx b, dest := .zpx b, cycles := 6 },
   { op := 0x5E, instr := .lsrAbx a, dest := .abx a, cycles := 7 }]

/-- `ROL`, the memory forms (R168). -/
def rolForms (b : Byte) (a : Word) : List MemForm :=
  [{ op := 0x26, instr := .rolZp b, dest := .zp b, cycles := 5 },
   { op := 0x2E, instr := .rolAbs a, dest := .abs a, cycles := 6 },
   { op := 0x36, instr := .rolZpx b, dest := .zpx b, cycles := 6 },
   { op := 0x3E, instr := .rolAbx a, dest := .abx a, cycles := 7 }]

/-- `ROR`, the memory forms (R169). -/
def rorForms (b : Byte) (a : Word) : List MemForm :=
  [{ op := 0x66, instr := .rorZp b, dest := .zp b, cycles := 5 },
   { op := 0x6E, instr := .rorAbs a, dest := .abs a, cycles := 6 },
   { op := 0x76, instr := .rorZpx b, dest := .zpx b, cycles := 6 },
   { op := 0x7E, instr := .rorAbx a, dest := .abx a, cycles := 7 }]

/-- `SLO`, the memory forms (R231). -/
def sloForms (b : Byte) (a : Word) : List MemForm :=
  [{ op := 0x03, instr := .sloIzx b, dest := .izx b, cycles := 8 },
   { op := 0x07, instr := .sloZp b, dest := .zp b, cycles := 5 },
   { op := 0x0F, instr := .sloAbs a, dest := .abs a, cycles := 6 },
   { op := 0x13, instr := .sloIzy b, dest := .izy b, cycles := 8 },
   { op := 0x17, instr := .sloZpx b, dest := .zpx b, cycles := 6 },
   { op := 0x1B, instr := .sloAby a, dest := .aby a, cycles := 7 },
   { op := 0x1F, instr := .sloAbx a, dest := .abx a, cycles := 7 }]

/-- `RLA`, the memory forms (R232). -/
def rlaForms (b : Byte) (a : Word) : List MemForm :=
  [{ op := 0x23, instr := .rlaIzx b, dest := .izx b, cycles := 8 },
   { op := 0x27, instr := .rlaZp b, dest := .zp b, cycles := 5 },
   { op := 0x2F, instr := .rlaAbs a, dest := .abs a, cycles := 6 },
   { op := 0x33, instr := .rlaIzy b, dest := .izy b, cycles := 8 },
   { op := 0x37, instr := .rlaZpx b, dest := .zpx b, cycles := 6 },
   { op := 0x3B, instr := .rlaAby a, dest := .aby a, cycles := 7 },
   { op := 0x3F, instr := .rlaAbx a, dest := .abx a, cycles := 7 }]

/-- `SRE`, the memory forms (R233). -/
def sreForms (b : Byte) (a : Word) : List MemForm :=
  [{ op := 0x43, instr := .sreIzx b, dest := .izx b, cycles := 8 },
   { op := 0x47, instr := .sreZp b, dest := .zp b, cycles := 5 },
   { op := 0x4F, instr := .sreAbs a, dest := .abs a, cycles := 6 },
   { op := 0x53, instr := .sreIzy b, dest := .izy b, cycles := 8 },
   { op := 0x57, instr := .sreZpx b, dest := .zpx b, cycles := 6 },
   { op := 0x5B, instr := .sreAby a, dest := .aby a, cycles := 7 },
   { op := 0x5F, instr := .sreAbx a, dest := .abx a, cycles := 7 }]

/-- `RRA`, the memory forms (R234). -/
def rraForms (b : Byte) (a : Word) : List MemForm :=
  [{ op := 0x63, instr := .rraIzx b, dest := .izx b, cycles := 8 },
   { op := 0x67, instr := .rraZp b, dest := .zp b, cycles := 5 },
   { op := 0x6F, instr := .rraAbs a, dest := .abs a, cycles := 6 },
   { op := 0x73, instr := .rraIzy b, dest := .izy b, cycles := 8 },
   { op := 0x77, instr := .rraZpx b, dest := .zpx b, cycles := 6 },
   { op := 0x7B, instr := .rraAby a, dest := .aby a, cycles := 7 },
   { op := 0x7F, instr := .rraAbx a, dest := .abx a, cycles := 7 }]

/-- `DCP`, the memory forms (R237). -/
def dcpForms (b : Byte) (a : Word) : List MemForm :=
  [{ op := 0xC3, instr := .dcpIzx b, dest := .izx b, cycles := 8 },
   { op := 0xC7, instr := .dcpZp b, dest := .zp b, cycles := 5 },
   { op := 0xCF, instr := .dcpAbs a, dest := .abs a, cycles := 6 },
   { op := 0xD3, instr := .dcpIzy b, dest := .izy b, cycles := 8 },
   { op := 0xD7, instr := .dcpZpx b, dest := .zpx b, cycles := 6 },
   { op := 0xDB, instr := .dcpAby a, dest := .aby a, cycles := 7 },
   { op := 0xDF, instr := .dcpAbx a, dest := .abx a, cycles := 7 }]

/-- `ISC`, the memory forms (R238). -/
def iscForms (b : Byte) (a : Word) : List MemForm :=
  [{ op := 0xE3, instr := .iscIzx b, dest := .izx b, cycles := 8 },
   { op := 0xE7, instr := .iscZp b, dest := .zp b, cycles := 5 },
   { op := 0xEF, instr := .iscAbs a, dest := .abs a, cycles := 6 },
   { op := 0xF3, instr := .iscIzy b, dest := .izy b, cycles := 8 },
   { op := 0xF7, instr := .iscZpx b, dest := .zpx b, cycles := 6 },
   { op := 0xFB, instr := .iscAby a, dest := .aby a, cycles := 7 },
   { op := 0xFF, instr := .iscAbx a, dest := .abx a, cycles := 7 }]

/-- Add a step's cost (R480). -/
def plusCycles (k : Nat) (s : State) : State := { s with cyc := s.cyc + k }

/-- Whether reading the operand crosses a page: its address lies on another page than its base (R96, R97, R101). -/
def crossesPage (o : Operand) (s : State) : Bool :=
  match o with
  | .acc => false
  | .imm _ => false
  | .mem m => (resolve m s).crossed

/-- The cost of a read form: its base count, and one more if it has the penalty and crosses a page (R103). -/
def readCost (f : ReadForm) (s : State) : Nat :=
  f.cycles + (if f.penalty && crossesPage f.operand s then 1 else 0)

/-- A read instruction follows its rule. Every form has the opcode of the list. Its operand is the immediate byte, with
no access, or the byte that one bus read of the effective address gives (R92, R95 to R102). Where reading the operand
raises nothing, the instruction completes: `effect` of the byte read, on the state after the read, with the form's
cost added. Where it raises a condition, that is the stop, in the state before the read. -/
def ReadRule (forms : Byte → Word → List ReadForm) (effect : Byte → State → State) : Prop :=
  ∀ (b : Byte) (a : Word), ∀ f ∈ forms b a,
    (encode f.instr).head? = some f.op ∧
    ∀ s : State,
      (∀ v, f.operand = .imm v → loadOperand f.operand s = .ok v s) ∧
      (∀ m, f.operand = .mem m → loadOperand f.operand s = busRead (resolve m s).addr s) ∧
      (operandOk f.operand s = true →
        ∃ w t, loadOperand f.operand s = .ok w t ∧
          exec f.instr s = .next (plusCycles (readCost f s) (effect w t))) ∧
      (operandOk f.operand s = false →
        ∃ c, loadOperand f.operand s = .stop c s ∧ exec f.instr s = .fault (.fatal c (latch c s)))

/-- A store follows its rule: `value` goes to the effective address by one bus write, no read, a fixed cost. Where
the write raises a condition, the instruction stops. -/
def StoreRule (forms : Byte → Word → List MemForm) (value : State → Byte) : Prop :=
  ∀ (b : Byte) (a : Word), ∀ f ∈ forms b a,
    (encode f.instr).head? = some f.op ∧
    ∀ s : State,
      (writeOk s (resolve f.dest s).addr (value s) = true →
        ∃ t, busWrite (resolve f.dest s).addr (value s) s = .ok () t ∧
          exec f.instr s = .next (plusCycles f.cycles t)) ∧
      (writeOk s (resolve f.dest s).addr (value s) = false →
        ∃ c t, busWrite (resolve f.dest s).addr (value s) s = .stop c t ∧
          exec f.instr s = .fault (.fatal c (latch c t)))

/-- A read-modify-write instruction follows its rule: one read of the effective address, one write of the new byte
there, then `effect` of the new byte and carry; a fixed cost. Where one of the two raises a condition, it stops. -/
def RmwRule (forms : Byte → Word → List MemForm) (f : Byte → Bool → Shifted) (effect : Shifted → State → State) :
    Prop :=
  ∀ (b : Byte) (a : Word), ∀ m ∈ forms b a,
    (encode m.instr).head? = some m.op ∧
    ∀ s : State,
      (rmwOk m.dest f s = true →
        ∃ w t u, busRead (resolve m.dest s).addr s = .ok w t ∧
          busWrite (resolve m.dest s).addr (f w s.c).r t = .ok () u ∧
          exec m.instr s = .next (plusCycles m.cycles (effect (f w s.c) u))) ∧
      (rmwOk m.dest f s = false → ∃ c t, exec m.instr s = .fault (.fatal c (latch c t)))

/-- A one-byte instruction that makes no bus access follows its rule: opcode, cost, effect, and it always
completes. -/
def ImpliedRule (op : Byte) (i : Instr) (cycles : Nat) (effect : State → State) : Prop :=
  encode i = [op] ∧ ∀ s : State, exec i s = .next (plusCycles cycles (effect s))

/-- A conditional branch follows R197: two bytes, base 2 cycles; taken, one more, and another if the target lies on a
different page than the next instruction. `pc` is at the next instruction. -/
def BranchRule (op : Byte) (i : Int → Instr) (cond : State → Bool) : Prop :=
  ∀ (off : Int), -128 ≤ off → off ≤ 127 →
    (∃ b, encode (i off) = [op, b] ∧ b.toInt = off) ∧
    ∀ s : State,
      (cond s = false → exec (i off) s = .next { s with cyc := s.cyc + 2 }) ∧
      (cond s = true → ∃ target : Word, (target.toNat : Int) = (s.pc.toNat + off) % 65536 ∧
        exec (i off) s = .next { s with
          pc := target,
          cyc := s.cyc + 3 + (if target.toNat / 256 = s.pc.toNat / 256 then 0 else 1) })

/-- The bus address of a stack cell, `$0100 + S` (R11). -/
def stackAddr (sp : Byte) : Word := 0x0100 + sp.setWidth 16

/-- `t` has the bytes of `ws` pushed on top of `s`, the first one first (R11): each in its cell, every other stored
byte as before, S down by their number. -/
structure Pushed (ws : List Byte) (s t : State) : Prop where
  stored : ∀ (k : Nat) (w : Byte), ws[k]? = some w → storedByte t (stackAddr (s.sp - BitVec.ofNat 8 k)) = some w
  sp : t.sp = s.sp - BitVec.ofNat 8 ws.length
  others : ∀ a : Word, (∀ k < ws.length, region a ≠ region (stackAddr (s.sp - BitVec.ofNat 8 k))) →
    storedByte t a = storedByte s a

/-- The bits of a pushed status byte (R14). -/
structure StatusBits (brk : Bool) (s : State) (w : Byte) : Prop where
  n : w.getLsbD 7 = s.n
  v : w.getLsbD 6 = s.v
  bit5 : w.getLsbD 5 = true
  bit4 : w.getLsbD 4 = brk
  d : w.getLsbD 3 = s.d
  i : w.getLsbD 2 = s.i
  z : w.getLsbD 1 = s.z
  c : w.getLsbD 0 = s.c

/-- What taking an interrupt leaves (R450, R196): return address, high byte first, and status pushed; I set; `pc` the
word at the vector; nothing else of the machine touched but `cyc` and the NMI request, of which the statements
speak. -/
structure EntersHandler (ret : Word) (brk : Bool) (vec : Word) (s t : State) : Prop where
  pushed : ∃ w, StatusBits brk s w ∧ Pushed [highByte ret, lowByte ret, w] s t
  masked : t.i = true
  pcLow : storedByte s vec = some (lowByte t.pc)
  pcHigh : storedByte s (vec + 1) = some (highByte t.pc)
  frame : t = { s with ram := t.ram, sp := t.sp, pc := t.pc, i := t.i, cyc := t.cyc, nmiReq := t.nmiReq }

/-- The registers and flags of the CPU that instructions write, `pc` and the never-written B apart (R10 to R13). -/
inductive Reg where
  | A | X | Y | S | N | V | D | I | Z | C
  deriving DecidableEq, Repr

/-- The contents of a register or flag. -/
def Reg.value (r : Reg) (s : State) : Nat :=
  match r with
  | .A => s.a.toNat
  | .X => s.x.toNat
  | .Y => s.y.toNat
  | .S => s.sp.toNat
  | .N => s.n.toNat
  | .V => s.v.toNat
  | .D => s.d.toNat
  | .I => s.i.toNat
  | .Z => s.z.toNat
  | .C => s.c.toNat

/-- What an instruction may write: the destination and the "Flags:" part of its rule. A shift writes A only in its
accumulator form. -/
def mayWrite (m : Mnemonic) (mode : Mode) : List Reg :=
  match m with
  | .LDA | .TXA | .TYA | .AND | .ORA | .EOR => [.A, .N, .Z]
  | .LDX | .TAX | .TSX | .INX | .DEX => [.X, .N, .Z]
  | .LDY | .TAY | .INY | .DEY => [.Y, .N, .Z]
  | .LAX => [.A, .X, .N, .Z]
  | .STA | .STX | .STY | .SAX => []
  | .TXS | .PHA | .PHP | .JSR | .RTS => [.S]
  | .PLA => [.A, .S, .N, .Z]
  | .PLP | .RTI => [.S, .N, .V, .D, .I, .Z, .C]
  | .BRK => [.S, .I]
  | .ADC | .SBC | .RRA | .ISC | .ARR => [.A, .N, .V, .Z, .C]
  | .BIT => [.N, .V, .Z]
  | .CMP | .CPX | .CPY | .DCP => [.N, .Z, .C]
  | .INC | .DEC => [.N, .Z]
  | .ASL | .LSR | .ROL | .ROR => if mode = .acc then [.A, .N, .Z, .C] else [.N, .Z, .C]
  | .SLO | .RLA | .SRE | .ANC | .ALR => [.A, .N, .Z, .C]
  | .SBX => [.X, .N, .Z, .C]
  | .JMP | .BPL | .BMI | .BVC | .BVS | .BCC | .BCS | .BNE | .BEQ | .NOP => []
  | .CLC | .SEC => [.C]
  | .CLI | .SEI => [.I]
  | .CLV => [.V]
  | .CLD | .SED => [.D]
  | .JAM | .ANE | .LXA | .SHA | .SHX | .SHY | .TAS | .LAS => []

/-- Whether a mnemonic with a memory operand writes it. -/
def writesOperand (m : Mnemonic) : Bool :=
  [Mnemonic.STA, .STX, .STY, .SAX, .INC, .DEC, .ASL, .LSR, .ROL, .ROR, .SLO, .RLA, .SRE, .RRA, .DCP, .ISC].contains m

/-- The bus addresses an instruction stores to: the stack cells of a push, the effective address of a store or
read-modify-write; none for any other form. -/
def storeAddrs (i : Instr) (s : State) : List Word :=
  match i.row.mnemonic with
  | .PHA | .PHP => [stackAddr s.sp]
  | .JSR => [stackAddr s.sp, stackAddr (s.sp - 1)]
  | .BRK => [stackAddr s.sp, stackAddr (s.sp - 1), stackAddr (s.sp - 2)]
  | m =>
    match i.row.form with
    | .data (.mem d) => if writesOperand m then [(resolve d s).addr] else []
    | .data _ | .rel _ | .ind _ | .imp => []

/-- The bus addresses an instruction reads or writes as data, stack and vectors apart. -/
def dataAddrs (i : Instr) (s : State) : List Word :=
  match i.row.mnemonic with
  | .PHA | .PHP | .JSR | .BRK => []
  | .JMP =>
    match i.row.form with
    | .ind p => [p, pointerHigh s.cfg p]
    | .data _ | .rel _ | .imp => []
  | _ =>
    match i.row.form with
    | .data (.mem d) => [(resolve d s).addr]
    | .data _ | .rel _ | .ind _ | .imp => []

end Sys2Proof.Forms
end

