-- ==== Sys2Proof/Certificates/Slice0/Obligations.lean ====
section
/-! DEFINITION. The statements for the provers. Each docstring names the rules of spec/ it speaks of. Instruction
rules are stated with the operand lists and rule shapes of Sys2Proof/Forms.lean; "a rule" is quoted in
OBLIGATIONS.json. -/

section

open Sys2Proof Sys2Proof.Machine Sys2Proof.Forms

/-- Encoding and decoding agree on every well-formed instruction, every operand value, whatever follows (R80, R83). -/
def Obligations.DecodeOfEncodeIsInstruction : Prop :=
  ∀ (i : Instr) (rest : List Byte), i.wf = true → decode (encode i ++ rest) = .ok (i, rest)

/-- The other direction: no two byte strings decode alike, and the decoder answers well-formed instructions only. -/
def Obligations.EncodeOfDecodeIsBytes : Prop :=
  ∀ (bs rest : List Byte) (i : Instr), decode bs = .ok (i, rest) → i.wf = true ∧ encode i ++ rest = bs

/-- R80, R81: every opcode value has a row of its own; no bit of it is ignored and no operand byte takes part in the
choice. -/
def Obligations.OpcodeAloneSelectsRow : Prop :=
  ∀ op : Byte, ∃ (m : Mnemonic) (mode : Mode) (cycles : Option Nat) (penalty : Bool) (cls : OpClass) (n : Nat),
    n ≤ 2 ∧ ∀ (b1 b2 : Byte) (rest : List Byte), ∃ i : Instr,
      decode (op :: b1 :: b2 :: rest) = .ok (i, (b1 :: b2 :: rest).drop n) ∧ (encode i).head? = some op ∧
      i.row.mnemonic = m ∧ i.row.mode = mode ∧ i.row.cycles = cycles ∧ i.row.penalty = penalty ∧ i.row.cls = cls

/-- R83: operand assembly from the instruction bytes. -/
def Obligations.OperandBytesAssembled : Prop :=
  (∀ (op b1 b2 : Byte) (rest rest' : List Byte) (i : Instr), decode (op :: b1 :: b2 :: rest) = .ok (i, rest') →
    (∀ v, i.row.form = .data (.imm v) → v = b1) ∧
    (∀ z, (i.row.form = .data (.mem (.zp z)) ∨ i.row.form = .data (.mem (.zpx z)) ∨
        i.row.form = .data (.mem (.zpy z)) ∨ i.row.form = .data (.mem (.izx z)) ∨
        i.row.form = .data (.mem (.izy z))) → z = b1) ∧
    (∀ a, (i.row.form = .data (.mem (.abs a)) ∨ i.row.form = .data (.mem (.abx a)) ∨
        i.row.form = .data (.mem (.aby a)) ∨ i.row.form = .ind a) → a.toNat = b2.toNat * 256 + b1.toNat) ∧
    (∀ off, i.row.form = .rel off → off = if b1.toNat < 128 then (b1.toNat : Int) else b1.toNat - 256)) ∧
  (∀ (z : Byte) (s : State), (resolve (.zp z) s).addr.toNat = z.toNat)

/-- Cells of the matrix of R106, written out by hand (a sanity statement). The census of the opcode table, and
STUB_SET (R108). -/
def Obligations.MatrixWordsAndCensus : Prop :=
   (decode [0xA9, 0x42] = .ok (.ldaImm 0x42, []) ∧ decode [0xBE, 0x34, 0x12] = .ok (.ldxAby 0x1234, []) ∧
    decode [0x91, 0x80] = .ok (.staIzy 0x80, []) ∧ decode [0x9A] = .ok (.txs, []) ∧
    decode [0x08] = .ok (.php, []) ∧ decode [0x7D, 0x00, 0x03] = .ok (.adcAbx 0x0300, []) ∧
    decode [0xE1, 0x10] = .ok (.sbcIzx 0x10, []) ∧ decode [0x2C, 0x02, 0x20] = .ok (.bitAbs 0x2002, []) ∧
    decode [0xDE, 0x00, 0x02] = .ok (.decAbx 0x0200, []) ∧ decode [0x6A] = .ok (.rorAcc, []) ∧
    decode [0x6C, 0xFF, 0x02] = .ok (.jmpInd 0x02FF, []) ∧ decode [0x20, 0x34, 0x12] = .ok (.jsrAbs 0x1234, []) ∧
    decode [0xD0, 0xFB] = .ok (.bne (-5), []) ∧ decode [0x00] = .ok (.brk, []) ∧
    decode [0x1B, 0x00, 0x03] = .ok (.sloAby 0x0300, []) ∧ decode [0xB7, 0x10] = .ok (.laxZpy 0x10, []) ∧
    decode [0x6B, 0xC0] = .ok (.arrImm 0xC0, []) ∧ decode [0xEB, 0x01] = .ok (.sbcImmEB 0x01, []) ∧
    decode [0x9C, 0x00, 0x03] = .ok (.shyAbx, [0x00, 0x03])) ∧
   (let classOf := fun op : Nat =>
      match decode [BitVec.ofNat 8 op, 0, 0] with
      | .ok (i, _) => some i.row.cls
      | .error _ => none
    let count := fun c : OpClass => ((List.range 256).filter fun op => classOf op == some c).length
    count .documented = 151 ∧ count .implemented = 58 ∧ count .hint = 27 ∧ count .stub = 20 ∧
    ((List.range 256).filter fun op => classOf op == some .stub) =
      [0x02, 0x12, 0x22, 0x32, 0x42, 0x52, 0x62, 0x72, 0x8B, 0x92, 0x93, 0x9B, 0x9C, 0x9E, 0x9F, 0xAB, 0xB2, 0xBB,
       0xD2, 0xF2])

/-- R421: one iteration. The bytes stand in RAM or cartridge space; a fetch from a register window is by ordinary
bus reads too (R190), which may stop. -/
def Obligations.StepRunsDecodedInstruction : Prop :=
  (∀ (s : State) (i : Instr), s.fatal = none → s.cfg.accepted = true → i.wf = true →
    let u := serviceInterrupts (hostTurn s)
    (∀ (k : Nat) (w : Byte), (encode i)[k]? = some w → storedByte u (u.pc + BitVec.ofNat 16 k) = some w) →
    step s =
      match exec i { u with pc := u.pc + BitVec.ofNat 16 (encode i).length } with
      | .next t => .next (finishIteration (hostTurn s).cyc t)
      | .fault r => .fault r
      | .refused r => .refused r) ∧
  (∀ (s t : State) (c : Fatal), s.fatal = none → s.cfg.accepted = true →
    fetchInstr (serviceInterrupts (hostTurn s)) = .stop c t → step s = .fault (.fatal c (latch c t))) ∧
  (∀ s : State, fetchByte s = (busRead s.pc s).andThen fun w t => .ok w { t with pc := t.pc + 1 }) ∧
  (∀ (c0 : Nat) (t : State), finishIteration c0 t = apuStep (t.cyc - c0) (ticks (t.cyc - c0) t)) ∧
  (∀ t : State, ticks 0 t = t) ∧
  (∀ (n : Nat) (t : State), ticks (n + 1) t = ticks n (diskTick (ppuTick (ppuTick (ppuTick t)))))

/-- R433: the latch keeps the first condition; the machine stays as it stopped. -/
def Obligations.FatalStopIsFinal : Prop :=
  (∀ (s t : State) (c : Fatal), step s = .fault (.fatal c t) → t.fatal = some c ∧ step t = .fault (.halted c t)) ∧
  (∀ (s : State) (c : Fatal), s.fatal = some c → step s = .fault (.halted c s))

/-- R260 with the default trap hook: JAM, ANE, LXA, SHA, SHX, SHY, TAS, LAS. Constructors: jam02, jam12, jam22,
jam32, jam42, jam52, jam62, jam72, jam92, jamB2, jamD2, jamF2, aneImm, lxaImm, shaIzy, shaAby, shxAby, shyAbx,
tasAby, lasAby. -/
def Obligations.StubOpcodesStop : Prop :=
  ∀ (p : Byte × Instr), p ∈
    [(0x02, Instr.jam02), (0x12, .jam12), (0x22, .jam22), (0x32, .jam32), (0x42, .jam42), (0x52, .jam52),
     (0x62, .jam62), (0x72, .jam72), (0x92, .jam92), (0xB2, .jamB2), (0xD2, .jamD2), (0xF2, .jamF2),
     (0x8B, .aneImm), (0xAB, .lxaImm), (0x93, .shaIzy), (0x9F, .shaAby), (0x9E, .shxAby), (0x9C, .shyAbx),
     (0x9B, .tasAby), (0xBB, .lasAby)] →
    (∀ rest : List Byte, decode (p.1 :: rest) = .ok (p.2, rest)) ∧
    ∀ s : State, s.fatal = none →
      exec p.2 s = .fault (.fatal (.noOpcodeHandler p.1 (s.pc - 1))
        { s with fatal := some (.noOpcodeHandler p.1 (s.pc - 1)) })

/-- The invariant `State.wf` of Safety.lean is kept by every step from every state that has it. -/
def Obligations.WellFormedStateIsKept : Prop :=
  ∀ s t : State, s.wf = true → step s = .next t → t.wf = true

/-- The invariant holds at the start: State.reset, and every launch (R426). -/
def Obligations.WellFormedAtReset : Prop :=
  State.reset.wf = true ∧
  ∀ p : Params, p.accepted = true →
    (∀ u : Supply, u.wf = true → (launchWith p u).wf = true) ∧
    (∀ (u : Supply) (k : Cartridge), u.wf = true → k.program.length ≤ 0x8000 → k.pattern.length ≤ 0x2000 →
      (launchWith p (u.withCartridge k)).wf = true) ∧
    (∀ k : Cartridge, k.program.length ≤ 0x8000 → k.pattern.length ≤ 0x2000 → (launch p k).wf = true) ∧
    (∀ boot : List Byte, boot.length ≤ 8192 → (launchDisk p boot).wf = true)

/-- R441 and R442 for a launched machine: NoHandler never occurs, and nothing else stops it. -/
def Obligations.LaunchedMachineStopsOnlyForTwoReasons : Prop :=
  ∀ s : State, s.wf = true →
    (∃ t, step s = .next t) ∨ (∃ c t, step s = .fault (.fatal c t) ∧ c.afterLaunch = true)

/-- R16, R480 to R482: who advances the cycle counter, and by how much. -/
def Obligations.StepAddsItsCycles : Prop :=
  ∀ s t : State, step s = .next t →
    let h := hostTurn s
    ∃ k, 2 ≤ k ∧ k ≤ 8 ∧
      t.cyc = h.cyc + k + (if h.nmiReq || (irqLine h && !h.i) then 7 else 0)

/-- R38, R454: the one operation of power-on and every later reset. The queue it is taken from is the model's choice
(log 6). -/
def Obligations.ResetTouchesTheCpuAlone : Prop :=
  (∀ (s : State) (lo hi : Byte), storedByte s 0xFFFC = some lo → storedByte s 0xFFFD = some hi →
    resetCpu s = { s with pc := hi ++ lo, a := 0, x := 0, y := 0, sp := 0xFD, n := false, v := false, b := false,
                          d := false, z := false, c := false, i := true, cyc := 0, nmiReq := false }) ∧
  (∀ (s : State) (hs : List HostAct), s.pending = .reset :: hs → hostTurn s = resetCpu { s with pending := hs })

/-- R38, R39 and R426, for any parameters and any supply. An unlisted cell reads 0, which the last clause says of
the memories that R39 clears. Cartridge space is in LaunchPlacesTheSupply. -/
def Obligations.PowerOnValues : Prop :=
  ∀ (p : Params) (u : Supply),
    let s := launchWith p u
    let pulse : Pulse :=
      { duty := 0, halt := false, cvol := false, vol := 0, swEn := false, swPeriod := 0, swNeg := false,
        swShift := 0, swReload := false, swDiv := 0, timer := 0, len := 0, envStart := false, envDiv := 0,
        envDecay := 0, enabled := false }
    s.ppu =
      { ctrl := 0, mask := 0, status := 0, oamAddr := 0, vaddr := 0, wlatch := false, rbuf := 0, obus := 0,
        scrollX := 0, scrollY := 0, ntSel := 0, oam := [], pat := u.patInit, nt0 := [], nt1 := [], pal := [],
        mirror := u.mirroringInit, dot := 0, scanline := -1, frame := 0 } ∧
    s.apu =
      { p1 := pulse, p2 := pulse,
        tri := { ctrl := false, linLoad := 0, timer := 0, len := 0, lin := 0, linReload := false, enabled := false },
        noi := { halt := false, cvol := false, vol := 0, mode := false, period := 0, len := 0, envStart := false,
                 envDiv := 0, envDecay := 0, enabled := false },
        fsDiv := 0, fsStep := 0, fsMode := false } ∧
    s.ctl = { strobe := false, shift0 := 0, shift1 := 0 } ∧
    s.dsk =
      { ram := [], state := .block1, index := 0, count := 0, fileTotal := 0, fileCur := 0, files := [],
        xferFlag := false, timerFlag := false, ctrl := 0, ioEn := 0, ext := 0, data := 0, latency := 0,
        tReload := 0, tCounter := 0, tRepeat := false, tEnable := false } ∧
    s.ppuHook = true ∧ s.ioHook = true ∧ s.nmiReq = false ∧ s.fatal = none ∧ s.cyc = 0 ∧ s.cfg = p ∧
    s.a = 0 ∧ s.x = 0 ∧ s.y = 0 ∧ s.sp = 0xFD ∧ s.i = true ∧
    s.n = false ∧ s.v = false ∧ s.b = false ∧ s.d = false ∧ s.z = false ∧ s.c = false ∧
    s.ram = u.ramInit ∧
    (∀ j, readCell s.ppu.oam j = 0 ∧ readCell s.ppu.nt0 j = 0 ∧ readCell s.ppu.nt1 j = 0 ∧
      readCell s.ppu.pal j = 0 ∧ readCell s.dsk.ram j = 0)

/-- R56, R57, R426. That the bootstrap comes after the cartridge is the model's reading (log 20). -/
def Obligations.LaunchPlacesTheSupply : Prop :=
  (∀ (p : Params) (u : Supply), u.wf = true →
    let s := launchWith p u
    (∀ a : Word, a.toNat < 0x2000 → storedByte s a = some (readCell u.ramInit (a.toNat % 2048))) ∧
    (∀ a : Word, 0x4200 ≤ a.toNat →
      (p.diskPresent = false ∨ a.toNat < 0xE000 ∨ 0xE000 + u.bootstrap.length ≤ a.toNat) →
      storedByte s a = some (readCell u.cartInit a.toNat)) ∧
    (p.diskPresent = true → ∀ j < u.bootstrap.length,
      storedByte s (BitVec.ofNat 16 (0xE000 + j)) = u.bootstrap[j]?) ∧
    storedByte s 0xFFFC = some (lowByte s.pc) ∧ storedByte s 0xFFFD = some (highByte s.pc)) ∧
  (∀ (u : Supply) (k : Cartridge), u.wf = true → k.program.length ≤ 0x8000 → k.pattern.length ≤ 0x2000 →
    let v := u.withCartridge k
    v = { u with cartInit := v.cartInit, patInit := v.patInit,
                 mirroringInit := if k.vertical then .vertical else .horizontal } ∧
    v.wf = true ∧
    (∀ j w, k.program[j]? = some w → (k.program.length ≠ 16384 ∨ j < 0x4000) →
      readCell v.cartInit (0x8000 + j) = w) ∧
    (k.program.length = 16384 → ∀ j w, k.program[j]? = some w → readCell v.cartInit (0xC000 + j) = w) ∧
    (∀ c : Nat, (c < 0x8000 ∨ 0x8000 + (if k.program.length = 16384 then 0x8000 else k.program.length) ≤ c) →
      readCell v.cartInit c = readCell u.cartInit c) ∧
    (∀ j w, k.pattern[j]? = some w → readCell v.patInit j = w) ∧
    (∀ c : Nat, k.pattern.length ≤ c → readCell v.patInit c = readCell u.patInit c)) ∧
  (∀ (p : Params) (k : Cartridge), launch p k = launchWith p (Supply.withCartridge k {})) ∧
  (∀ (p : Params) (boot : List Byte), launchDisk p boot = launchWith p { bootstrap := boot })

/-- R450, R422, R423, R449: interrupt entry and its priority. -/
def Obligations.NmiAndIrqEntry : Prop :=
  ∀ s : State, memoryWf 0 0x800 s.ram = true →
    (s.nmiReq = true →
      EntersHandler s.pc false 0xFFFA s (serviceInterrupts s) ∧
      (serviceInterrupts s).cyc = s.cyc + 7 ∧ (serviceInterrupts s).nmiReq = false) ∧
    (s.nmiReq = false → irqLine s = true → s.i = false →
      EntersHandler s.pc false 0xFFFE s (serviceInterrupts s) ∧
      (serviceInterrupts s).cyc = s.cyc + 7 ∧ (serviceInterrupts s).nmiReq = false)

/-- R448, R18: the maskable request is a level, masked by I. -/
def Obligations.IrqLineAndMask : Prop :=
  (∀ s : State, s.nmiReq = false → (irqLine s = false ∨ s.i = true) → serviceInterrupts s = s) ∧
  (∀ s : State, irqLine s = true ↔
    s.cfg.diskPresent = true ∧
      (s.dsk.timerFlag = true ∨ (s.dsk.xferFlag = true ∧ s.dsk.ctrl.getLsbD 7 = true)))

/-- R196: software interrupt. `s.pc` is one past the opcode. -/
def Obligations.BrkTakesTheSharedVector : Prop :=
  encode .brk = [0x00] ∧
  ∀ s : State, memoryWf 0 0x800 s.ram = true →
    ∃ t, exec .brk s = .next t ∧ EntersHandler (s.pc + 1) true 0xFFFE s t ∧ t.cyc = s.cyc + 7 ∧
      t.nmiReq = s.nmiReq

/-- R195: return from interrupt. -/
def Obligations.RtiRestoresFlagsAndPc : Prop :=
  encode .rti = [0x40] ∧
  ∀ s : State, ∃ p lo hi : Byte,
    storedByte s (stackAddr (s.sp + 1)) = some p ∧ storedByte s (stackAddr (s.sp + 2)) = some lo ∧
    storedByte s (stackAddr (s.sp + 3)) = some hi ∧
    exec .rti s = .next { s with
      n := p.getLsbD 7, v := p.getLsbD 6, d := p.getLsbD 3, i := p.getLsbD 2, z := p.getLsbD 1, c := p.getLsbD 0,
      pc := hi ++ lo, sp := s.sp + 3, cyc := s.cyc + 6 }

/-- R450 with R195: entry and return are inverse on pc, S and the flags. -/
def Obligations.RtiAfterEntryResumes : Prop :=
  ∀ (s t : State) (ret vec : Word) (brk : Bool), memoryWf 0 0x800 s.ram = true →
    EntersHandler ret brk vec s t →
    ∃ u, exec .rti t = .next u ∧ u.pc = ret ∧ u.sp = s.sp ∧ u.n = s.n ∧ u.v = s.v ∧ u.d = s.d ∧ u.i = s.i ∧
      u.z = s.z ∧ u.c = s.c

/-- R40: the table of regions. -/
def Obligations.RegionOfEveryAddress : Prop :=
  ∀ a : Word,
    (a.toNat ≤ 0x1FFF → region a = .ram (a.toNat % 2048)) ∧
    (0x2000 ≤ a.toNat → a.toNat ≤ 0x3FFF → region a = .ppu (ppuReg a)) ∧
    (a.toNat = 0x4014 → region a = .bulkCopy) ∧
    (0x4000 ≤ a.toNat → a.toNat ≤ 0x41FF → a.toNat ≠ 0x4014 → region a = .io) ∧
    (0x4200 ≤ a.toNat → region a = .cart a.toNat) ∧
    (a.toNat % 8 = 0 → ppuReg a = .control) ∧ (a.toNat % 8 = 1 → ppuReg a = .mask) ∧
    (a.toNat % 8 = 2 → ppuReg a = .status) ∧ (a.toNat % 8 = 3 → ppuReg a = .oamAddress) ∧
    (a.toNat % 8 = 4 → ppuReg a = .oamData) ∧ (a.toNat % 8 = 5 → ppuReg a = .scroll) ∧
    (a.toNat % 8 = 6 → ppuReg a = .vramAddress) ∧ (a.toNat % 8 = 7 → ppuReg a = .vramData)

/-- R43 and R47: read, write, mirrors; no side effects, no faults. -/
def Obligations.StoredBytesReadBack : Prop :=
  ∀ (s : State) (a : Word) (w : Byte), memoryWf 0 0x800 s.ram = true → memoryWf 0x4200 0x10000 s.cart = true →
    (a.toNat < 0x2000 → ∃ t, busWrite a w s = .ok () t ∧ t = { s with ram := t.ram } ∧
      (∀ b : Word, b.toNat < 0x2000 → b.toNat % 2048 = a.toNat % 2048 → busRead b t = .ok w t) ∧
      (∀ b : Word, (0x2000 ≤ b.toNat ∨ b.toNat % 2048 ≠ a.toNat % 2048) → storedByte t b = storedByte s b)) ∧
    (0x4200 ≤ a.toNat → ∃ t, busWrite a w s = .ok () t ∧ t = { s with cart := t.cart } ∧
      busRead a t = .ok w t ∧ (∀ b : Word, b ≠ a → storedByte t b = storedByte s b)) ∧
    ((a.toNat < 0x2000 ∨ 0x4200 ≤ a.toNat) → ∃ r, storedByte s a = some r ∧ busRead a s = .ok r s)

/-- R50: the missing hook. -/
def Obligations.UnhookedWindowIsFatal : Prop :=
  (∀ (s : State) (a : Word) (w : Byte), s.ppuHook = false → 0x2000 ≤ a.toNat → a.toNat ≤ 0x3FFF →
    busRead a s = .stop (.noHandler a) s ∧ busWrite a w s = .stop (.noHandler a) s) ∧
  (∀ (s : State) (a : Word) (w : Byte), s.ioHook = false → 0x4000 ≤ a.toNat → a.toNat ≤ 0x41FF →
    busRead a s = .stop (.noHandler a) s ∧ (a.toNat ≠ 0x4014 → busWrite a w s = .stop (.noHandler a) s)) ∧
  (∀ (s t : State) (a b : Word) (w : Byte), s.ppuHook = true → s.ioHook = true →
    busRead a s ≠ .stop (.noHandler b) t ∧ busWrite a w s ≠ .stop (.noHandler b) t)

/-- R54: the addresses whose read has a side effect, and what those side effects can be. -/
def Obligations.ReadsChangeOnlySideEffects : Prop :=
  ∀ (s t : State) (a : Word) (w : Byte), busRead a s = .ok w t →
    t = { s with
      ppu := { s.ppu with
        status := t.ppu.status, wlatch := t.ppu.wlatch, vaddr := t.ppu.vaddr, rbuf := t.ppu.rbuf },
      ctl := { s.ctl with shift0 := t.ctl.shift0, shift1 := t.ctl.shift1 },
      dsk := { s.dsk with xferFlag := t.dsk.xferFlag, timerFlag := t.dsk.timerFlag },
      freeReads := t.freeReads } ∧
    ((a.toNat < 0x2000 ∨ 0x4200 ≤ a.toNat) → t = s) ∧
    (0x2000 ≤ a.toNat → a.toNat ≤ 0x3FFF → t.ctl = s.ctl ∧ t.dsk = s.dsk) ∧
    (0x4000 ≤ a.toNat → a.toNat ≤ 0x41FF → t.ppu = s.ppu) ∧
    (a.toNat % 8 ≠ 2 → a.toNat % 8 ≠ 7 → t.ppu = s.ppu)

/-- R2, R42: ownership of state, seen from one write. -/
def Obligations.WritesChangeOnlyTheirUnit : Prop :=
  ∀ (s t : State) (a : Word) (w : Byte), busWrite a w s = .ok () t →
    t = { s with ram := t.ram, cart := t.cart, ppu := t.ppu, apu := t.apu, ctl := t.ctl, dsk := t.dsk,
                 freeReads := t.freeReads } ∧
    (0x2000 ≤ a.toNat → a.toNat ≤ 0x3FFF → t = { s with ppu := t.ppu }) ∧
    (0x4000 ≤ a.toNat → a.toNat ≤ 0x401F → a.toNat ≠ 0x4014 → t = { s with apu := t.apu, ctl := t.ctl }) ∧
    (0x4020 ≤ a.toNat → a.toNat ≤ 0x41FF →
      t = { s with dsk := t.dsk, ppu := { s.ppu with mirror := t.ppu.mirror } }) ∧
    (a.toNat = 0x4014 → t = { s with
      ppu := { s.ppu with
        oam := t.ppu.oam, status := t.ppu.status, wlatch := t.ppu.wlatch, vaddr := t.ppu.vaddr, rbuf := t.ppu.rbuf },
      ctl := { s.ctl with shift0 := t.ctl.shift0, shift1 := t.ctl.shift1 },
      dsk := { s.dsk with xferFlag := t.dsk.xferFlag, timerFlag := t.dsk.timerFlag },
      freeReads := t.freeReads })

/-- R48: the bulk copy. `oam_addr` and `io_hook` play no part. -/
def Obligations.BulkCopyIs256OrderedReads : Prop :=
  (∀ (s : State) (v : Byte), copyOk s v = true → ∃ σ : Nat → State,
    σ 0 = s ∧ busWrite 0x4014 v s = .ok () (σ 256) ∧
    ∀ k < 256, ∃ w u, busRead (BitVec.ofNat 16 (v.toNat * 256 + k)) (σ k) = .ok w u ∧
      σ (k + 1) = { u with ppu := { u.ppu with oam := writeCell u.ppu.oam k w } }) ∧
  (∀ (s : State) (v : Byte), copyOk s v = false → ∃ (σ : Nat → State) (n : Nat) (c : Fatal),
    n < 256 ∧ σ 0 = s ∧ busWrite 0x4014 v s = .stop c (σ n) ∧
    busRead (BitVec.ofNat 16 (v.toNat * 256 + n)) (σ n) = .stop c (σ n) ∧
    ∀ k < n, ∃ w u, busRead (BitVec.ofNat 16 (v.toNat * 256 + k)) (σ k) = .ok w u ∧
      σ (k + 1) = { u with ppu := { u.ppu with oam := writeCell u.ppu.oam k w } }) ∧
  (∀ (s : State) (v : Byte), memoryWf 0 256 s.ppu.oam = true → (v.toNat < 0x20 ∨ 0x42 ≤ v.toNat) →
    ∃ t, busWrite 0x4014 v s = .ok () t ∧ t = { s with ppu := { s.ppu with oam := t.ppu.oam } } ∧
      ∀ k < 256, storedByte s (BitVec.ofNat 16 (v.toNat * 256 + k)) = some (readCell t.ppu.oam k))

/-- R95 to R102, with pointers read through the stored bytes of page zero. -/
def Obligations.AddressingModes : Prop :=
  ∀ (s : State) (z : Byte) (a : Word),
    (resolve (.abs a) s = { addr := a, crossed := false }) ∧
    ((resolve (.zp z) s).addr.toNat = z.toNat ∧ (resolve (.zp z) s).crossed = false) ∧
    ((resolve (.zpx z) s).addr.toNat = (z.toNat + s.x.toNat) % 256 ∧ (resolve (.zpx z) s).crossed = false) ∧
    ((resolve (.zpy z) s).addr.toNat = (z.toNat + s.y.toNat) % 256 ∧ (resolve (.zpy z) s).crossed = false) ∧
    ((resolve (.abx a) s).addr.toNat = (a.toNat + s.x.toNat) % 65536 ∧
      ((resolve (.abx a) s).crossed = true ↔ (a.toNat + s.x.toNat) % 65536 / 256 ≠ a.toNat / 256)) ∧
    ((resolve (.aby a) s).addr.toNat = (a.toNat + s.y.toNat) % 65536 ∧
      ((resolve (.aby a) s).crossed = true ↔ (a.toNat + s.y.toNat) % 65536 / 256 ≠ a.toNat / 256)) ∧
    (∃ lo hi : Byte,
      storedByte s (BitVec.ofNat 16 ((z.toNat + s.x.toNat) % 256)) = some lo ∧
      storedByte s (BitVec.ofNat 16 ((z.toNat + s.x.toNat + 1) % 256)) = some hi ∧
      (resolve (.izx z) s).addr.toNat = hi.toNat * 256 + lo.toNat ∧ (resolve (.izx z) s).crossed = false) ∧
    (∃ lo hi : Byte,
      storedByte s (BitVec.ofNat 16 z.toNat) = some lo ∧
      storedByte s (BitVec.ofNat 16 ((z.toNat + 1) % 256)) = some hi ∧
      (resolve (.izy z) s).addr.toNat = (hi.toNat * 256 + lo.toNat + s.y.toNat) % 65536 ∧
      ((resolve (.izy z) s).crossed = true ↔
        (hi.toNat * 256 + lo.toNat + s.y.toNat) % 65536 / 256 ≠ hi.toNat))

/-- R284, R344, R394: the registers whose read the spec leaves open. -/
def Obligations.OpenReadsDrawAFreeByte : Prop :=
  (∀ (s : State) (a : Word), s.ppuHook = true → 0x2000 ≤ a.toNat → a.toNat ≤ 0x3FFF →
    (a.toNat % 8 = 0 ∨ a.toNat % 8 = 1 ∨ a.toNat % 8 = 3 ∨ a.toNat % 8 = 5 ∨ a.toNat % 8 = 6) →
    busRead a s = .ok (Config.freeByte s.freeReads) { s with freeReads := s.freeReads + 1 }) ∧
  (∀ (s : State) (a : Word), s.ioHook = true → 0x4000 ≤ a.toNat → a.toNat ≤ 0x41FF →
    (a.toNat < 0x4015 ∨ (0x4017 < a.toNat ∧ a.toNat < 0x4030) ∨ 0x4033 < a.toNat) →
    busRead a s = .ok (Config.freeByte s.freeReads) { s with freeReads := s.freeReads + 1 }) ∧
  (∀ (s : State) (a : Word) (w : Byte), s.ioHook = true →
    (a.toNat = 0x4009 ∨ a.toNat = 0x400D ∨ (0x4010 ≤ a.toNat ∧ a.toNat ≤ 0x4013) ∨
      (0x4018 ≤ a.toNat ∧ a.toNat ≤ 0x401F) ∨ (0x4027 ≤ a.toNat ∧ a.toNat ≤ 0x41FF)) →
    busWrite a w s = .ok () s)

/-- R273. -/
def Obligations.StatusReadClearsVblankAndLatch : Prop :=
  ∀ (s : State) (a : Word), s.ppuHook = true → 0x2000 ≤ a.toNat → a.toNat ≤ 0x3FFF → a.toNat % 8 = 2 →
    ∃ w t, busRead a s = .ok w t ∧
      (∀ k, w.getLsbD k = if k < 5 then s.ppu.obus.getLsbD k else s.ppu.status.getLsbD k) ∧
      t = { s with ppu := { s.ppu with status := t.ppu.status, wlatch := false } } ∧
      (∀ k, t.ppu.status.getLsbD k = (s.ppu.status.getLsbD k && decide (k ≠ 7)))

/-- R271, R272 (the stores), R274, R275, R283, R285. Bits are numbered by `getLsbD`. R276, R277. -/
def Obligations.PixelPortWrites : Prop :=
   (∀ (s : State) (a : Word) (w : Byte), s.ppuHook = true → 0x2000 ≤ a.toNat → a.toNat ≤ 0x3FFF →
      (a.toNat % 8 = 0 → busWrite a w s = .ok ()
        { s with ppu := { s.ppu with obus := BitVec.ofNat 5 w.toNat, ctrl := w, ntSel := BitVec.ofNat 2 w.toNat } }) ∧
      (a.toNat % 8 = 1 → busWrite a w s = .ok ()
        { s with ppu := { s.ppu with obus := BitVec.ofNat 5 w.toNat, mask := w } }) ∧
      (a.toNat % 8 = 2 → busWrite a w s = .ok () { s with ppu := { s.ppu with obus := BitVec.ofNat 5 w.toNat } }) ∧
      (a.toNat % 8 = 3 → busWrite a w s = .ok ()
        { s with ppu := { s.ppu with obus := BitVec.ofNat 5 w.toNat, oamAddr := w } }) ∧
      (a.toNat % 8 = 4 → busWrite a w s = .ok ()
        { s with ppu := { s.ppu with
          obus := BitVec.ofNat 5 w.toNat, oam := writeCell s.ppu.oam s.ppu.oamAddr.toNat w,
          oamAddr := BitVec.ofNat 8 (s.ppu.oamAddr.toNat + 1) } }) ∧
      (a.toNat % 8 = 4 → busRead a s = .ok (readCell s.ppu.oam s.ppu.oamAddr.toNat) s)) ∧
   (∀ (s : State) (a : Word) (w : Byte), s.ppuHook = true → 0x2000 ≤ a.toNat → a.toNat ≤ 0x3FFF →
      (a.toNat % 8 = 5 → s.ppu.wlatch = false → busWrite a w s = .ok ()
        { s with ppu := { s.ppu with obus := BitVec.ofNat 5 w.toNat, scrollX := w, wlatch := true } }) ∧
      (a.toNat % 8 = 5 → s.ppu.wlatch = true → busWrite a w s = .ok ()
        { s with ppu := { s.ppu with obus := BitVec.ofNat 5 w.toNat, scrollY := w, wlatch := false } }) ∧
      (a.toNat % 8 = 6 → s.ppu.wlatch = false → busWrite a w s = .ok ()
        { s with ppu := { s.ppu with
          obus := BitVec.ofNat 5 w.toNat,
          vaddr := BitVec.ofNat 15 (w.toNat % 128 * 256 + s.ppu.vaddr.toNat % 256), wlatch := true } }) ∧
      (a.toNat % 8 = 6 → s.ppu.wlatch = true → busWrite a w s = .ok ()
        { s with ppu := { s.ppu with
          obus := BitVec.ofNat 5 w.toNat,
          vaddr := BitVec.ofNat 15 (s.ppu.vaddr.toNat / 256 * 256 + w.toNat), wlatch := false } }))

/-- R278, R279, R280. R287. That the shadow is latched before the raise is the model's reading (log 13), so the
statement leaves the shadow open. -/
def Obligations.DataPortAccesses : Prop :=
   (∀ (s : State) (a : Word) (w : Byte), s.ppuHook = true → 0x2000 ≤ a.toNat → a.toNat ≤ 0x3FFF → a.toNat % 8 = 7 →
      s.ppu.vaddr.toNat < 0x4000 →
      let next := BitVec.ofNat 15 (s.ppu.vaddr.toNat + (if s.ppu.ctrl.getLsbD 2 then 32 else 1))
      (s.ppu.vaddr.toNat < 0x3F00 → busRead a s = .ok s.ppu.rbuf
        { s with ppu := { s.ppu with rbuf := vramRead s.ppu s.ppu.vaddr.toNat, vaddr := next } }) ∧
      (0x3F00 ≤ s.ppu.vaddr.toNat → busRead a s = .ok (vramRead s.ppu s.ppu.vaddr.toNat)
        { s with ppu := { s.ppu with vaddr := next } }) ∧
      busWrite a w s = .ok () { s with ppu :=
        { vramWrite s.ppu s.ppu.vaddr.toNat w with obus := BitVec.ofNat 5 w.toNat, vaddr := next } }) ∧
   (∀ (s : State) (a : Word) (w : Byte), s.ppuHook = true → 0x2000 ≤ a.toNat → a.toNat ≤ 0x3FFF → a.toNat % 8 = 7 →
      (0x4000 ≤ s.ppu.vaddr.toNat →
        busRead a s = .stop (.vramRange s.ppu.vaddr) s ∧
        ∃ t, busWrite a w s = .stop (.vramRange s.ppu.vaddr) t ∧
          t = { s with ppu := { s.ppu with obus := t.ppu.obus } }) ∧
      (s.ppu.vaddr.toNat < 0x4000 → (∃ r t, busRead a s = .ok r t) ∧ ∃ t, busWrite a w s = .ok () t))

/-- R286, R288, R289, over memories in canonical form. -/
def Obligations.PixelMemoryAliases : Prop :=
  let cell := fun (m : Mirroring) (a : Nat) =>
    if a < 0x2000 then (0, a)
    else if a < 0x3F00 then
      ((match m with
        | .vertical => if a / 0x400 % 4 = 0 ∨ a / 0x400 % 4 = 2 then 1 else 2
        | .horizontal => if a / 0x400 % 4 = 0 ∨ a / 0x400 % 4 = 1 then 1 else 2), a % 0x400)
    else (3, if a % 32 = 0x10 ∨ a % 32 = 0x14 ∨ a % 32 = 0x18 ∨ a % 32 = 0x1C then a % 32 - 0x10 else a % 32)
  ∀ (p : Ppu) (a b : Nat) (w : Byte), ppuWf p = true → a < 0x4000 → b < 0x4000 →
    vramRead (vramWrite p a w) b =
      if cell p.mirror b = cell p.mirror a then (if 0x3F00 ≤ a then w &&& 0x3F else w) else vramRead p b

/-- R295, R26: the frame counter increments exactly once per 341 x 262 dots, from any position. -/
def Obligations.FrameIs89342Ticks : Prop :=
  ∀ s : State, s.ppu.dot ≤ 340 → -1 ≤ s.ppu.scanline → s.ppu.scanline ≤ 260 →
    let t := Nat.repeat ppuTick (341 * 262) s
    t.ppu.dot = s.ppu.dot ∧ t.ppu.scanline = s.ppu.scanline ∧ t.ppu.frame = s.ppu.frame + 1

/-- R296, R297, R298, with the advance of R295. -/
def Obligations.TickEventsAndAdvance : Prop :=
  (∀ s : State, s.ppu.scanline = -1 → s.ppu.dot = 1 →
    ∃ st, (∀ k, st.getLsbD k = (s.ppu.status.getLsbD k && decide (k < 6))) ∧
      ppuTick s = { s with ppu := { s.ppu with status := st, ntSel := 0, dot := 2 } }) ∧
  (∀ s : State, s.ppu.scanline = 241 → s.ppu.dot = 1 →
    ∃ st, (∀ k, st.getLsbD k = (s.ppu.status.getLsbD k || decide (k = 7))) ∧
      ppuTick s = { s with nmiReq := s.nmiReq || s.ppu.ctrl.getLsbD 7,
                           ppu := { s.ppu with status := st, dot := 2 } }) ∧
  (∀ s : State, s.ppu.dot ≤ 340 → -1 ≤ s.ppu.scanline → s.ppu.scanline ≤ 260 →
    ¬ (s.ppu.dot = 1 ∧ (s.ppu.scanline = -1 ∨ s.ppu.scanline = 241)) →
    ¬ (s.ppu.dot = 0 ∧ 0 ≤ s.ppu.scanline ∧ s.ppu.scanline ≤ 239) →
    ppuTick s = { s with ppu := { s.ppu with
      dot := if s.ppu.dot = 340 then 0 else s.ppu.dot + 1,
      scanline := if s.ppu.dot = 340 then (if s.ppu.scanline = 260 then -1 else s.ppu.scanline + 1)
        else s.ppu.scanline,
      frame := if s.ppu.dot = 340 ∧ s.ppu.scanline = 260 then s.ppu.frame + 1 else s.ppu.frame } })

/-- R300, R310, R311, R312, R316, over `background` (R301, R303 to R306), `spriteIndex` and `spriteColour` (R309). -/
def Obligations.LineIsRenderedAtDotZero : Prop :=
  ∀ s : State, 0 ≤ s.ppu.scanline → s.ppu.scanline ≤ 239 → s.ppu.dot = 0 →
    let k := s.ppu.scanline.toNat
    let p := s.ppu
    ∃ (row : List Byte) (st : Byte), row.length = 256 ∧
      ppuTick s = { s with out := .lineOut k row :: s.out, ppu := { p with status := st, dot := 1 } } ∧
      (∀ x < 256, ∃ c, row[x]? = some c ∧
        (p.mask.getLsbD 4 = false → c = (background p k x).colour) ∧
        (p.mask.getLsbD 4 = true → (∀ i < 64, spriteIndex p i k x = 0) → c = (background p k x).colour) ∧
        (p.mask.getLsbD 4 = true → ∀ i < 64, spriteIndex p i k x ≠ 0 → (∀ j < i, spriteIndex p j k x = 0) →
          c = if (background p k x).idx ≠ 0 ∧ (readCell p.oam (4 * i + 2)).getLsbD 5 = true
            then (background p k x).colour else spriteColour p i k x)) ∧
      ((p.mask.getLsbD 3 = true ∧ p.mask.getLsbD 4 = true ∧
        ∃ x < 256, spriteIndex p 0 k x ≠ 0 ∧ (background p k x).idx ≠ 0) →
        ∀ j, st.getLsbD j = (p.status.getLsbD j || decide (j = 6))) ∧
      (¬ (p.mask.getLsbD 3 = true ∧ p.mask.getLsbD 4 = true ∧
        ∃ x < 256, spriteIndex p 0 k x ≠ 0 ∧ (background p k x).idx ≠ 0) → st = p.status)

/-- R301, R303 to R309, written out. -/
def Obligations.BackgroundAndSpritePixels : Prop :=
  (∀ (p : Ppu) (s x : Nat), p.mask.getLsbD 3 = false → background p s x = { idx := 0, colour := palRead p 0 }) ∧
  (∀ (p : Ppu) (s x : Nat), p.mask.getLsbD 3 = true →
    let h := (p.ntSel.toNat % 2 * 256 + p.scrollX.toNat + x) % 512
    let L := p.ntSel.toNat / 2 * 2 + (if h ≥ 256 then 1 else 0)
    let col := h % 256 / 8
    let row := s / 8
    let tile := (ntRead p L (row * 32 + col)).toNat
    let ab := (ntRead p L (0x3C0 + row / 4 * 8 + col / 4)).toNat
    let group := ab / 2 ^ (row / 2 % 2 * 4 + col / 2 % 2 * 2) % 4
    let pa := (if p.ctrl.getLsbD 4 then 0x1000 else 0) + tile * 16 + s % 8
    let idx := ((readCell p.pat pa).getLsbD (7 - h % 8)).toNat
      + 2 * ((readCell p.pat (pa + 8)).getLsbD (7 - h % 8)).toNat
    background p s x = { idx := idx, colour := if idx = 0 then palRead p 0 else palRead p (group * 4 + idx) }) ∧
  (∀ (p : Ppu) (i s x : Nat),
    let top := (readCell p.oam (4 * i)).toNat + 1
    let t := (readCell p.oam (4 * i + 1)).toNat
    let at' := readCell p.oam (4 * i + 2)
    let sx := (readCell p.oam (4 * i + 3)).toNat
    let hgt := if p.ctrl.getLsbD 5 then 16 else 8
    let v := if at'.getLsbD 7 then hgt - 1 - (s - top) else s - top
    let c := if at'.getLsbD 6 then 7 - (x - sx) else x - sx
    let pa := if p.ctrl.getLsbD 5 then t % 2 * 0x1000 + (t / 2 * 2 + (if 8 ≤ v then 1 else 0)) * 16 + v % 8
      else (if p.ctrl.getLsbD 3 then 0x1000 else 0) + t * 16 + v
    spriteIndex p i s x =
      (if top ≤ s ∧ s < top + hgt ∧ sx ≤ x ∧ x ≤ sx + 7 then
        ((readCell p.pat pa).getLsbD (7 - c)).toNat + 2 * ((readCell p.pat (pa + 8)).getLsbD (7 - c)).toNat
      else 0) ∧
    spriteColour p i s x = palRead p (0x10 + at'.toNat % 4 * 4 + spriteIndex p i s x))

/-- R331 to R334. Fields are cut out with `extractLsb'`, first bit and width. The length load is `lengthOf`, whose
table is stated in LengthTableAndChannelStatus. R335 to R340, R343. -/
def Obligations.AudioRegisterWrites : Prop :=
   (∀ (s : State) (w : Byte), s.ioHook = true →
      let config := fun p : Pulse => { p with
        duty := w.extractLsb' 6 2, halt := w.getLsbD 5, cvol := w.getLsbD 4, vol := w.extractLsb' 0 4 }
      let sweep := fun p : Pulse => { p with
        swEn := w.getLsbD 7, swPeriod := w.extractLsb' 4 3, swNeg := w.getLsbD 3, swShift := w.extractLsb' 0 3,
        swReload := true }
      let low := fun p : Pulse => { p with timer := BitVec.ofNat 11 (p.timer.toNat / 256 * 256 + w.toNat) }
      let high := fun p : Pulse => { p with
        timer := BitVec.ofNat 11 (w.toNat % 8 * 256 + p.timer.toNat % 256),
        len := if p.enabled then lengthOf w else p.len, envStart := true }
      busWrite 0x4000 w s = .ok () { s with apu := { s.apu with p1 := config s.apu.p1 } } ∧
      busWrite 0x4001 w s = .ok () { s with apu := { s.apu with p1 := sweep s.apu.p1 } } ∧
      busWrite 0x4002 w s = .ok () { s with apu := { s.apu with p1 := low s.apu.p1 } } ∧
      busWrite 0x4003 w s = .ok () { s with apu := { s.apu with p1 := high s.apu.p1 } } ∧
      busWrite 0x4004 w s = .ok () { s with apu := { s.apu with p2 := config s.apu.p2 } } ∧
      busWrite 0x4005 w s = .ok () { s with apu := { s.apu with p2 := sweep s.apu.p2 } } ∧
      busWrite 0x4006 w s = .ok () { s with apu := { s.apu with p2 := low s.apu.p2 } } ∧
      busWrite 0x4007 w s = .ok () { s with apu := { s.apu with p2 := high s.apu.p2 } }) ∧
   (∀ (s : State) (w : Byte), s.ioHook = true →
      busWrite 0x4008 w s = .ok () { s with apu := { s.apu with
        tri := { s.apu.tri with ctrl := w.getLsbD 7, linLoad := w.extractLsb' 0 7 } } } ∧
      busWrite 0x400A w s = .ok () { s with apu := { s.apu with
        tri := { s.apu.tri with timer := BitVec.ofNat 11 (s.apu.tri.timer.toNat / 256 * 256 + w.toNat) } } } ∧
      busWrite 0x400B w s = .ok () { s with apu := { s.apu with
        tri := { s.apu.tri with
          timer := BitVec.ofNat 11 (w.toNat % 8 * 256 + s.apu.tri.timer.toNat % 256),
          len := if s.apu.tri.enabled then lengthOf w else s.apu.tri.len, linReload := true } } } ∧
      busWrite 0x400C w s = .ok () { s with apu := { s.apu with
        noi := { s.apu.noi with halt := w.getLsbD 5, cvol := w.getLsbD 4, vol := w.extractLsb' 0 4 } } } ∧
      busWrite 0x400E w s = .ok () { s with apu := { s.apu with
        noi := { s.apu.noi with mode := w.getLsbD 7, period := w.extractLsb' 0 4 } } } ∧
      busWrite 0x400F w s = .ok () { s with apu := { s.apu with
        noi := { s.apu.noi with
          len := if s.apu.noi.enabled then lengthOf w else s.apu.noi.len, envStart := true } } } ∧
      busWrite 0x4017 w s = .ok () { s with apu := { s.apu with fsMode := w.getLsbD 7, fsDiv := 0, fsStep := 0 } })

/-- R341, R342, R346. -/
def Obligations.LengthTableAndChannelStatus : Prop :=
  (∀ w : Byte,
    [10, 254, 20, 2, 40, 4, 80, 6, 160, 8, 60, 10, 14, 12, 26, 14,
     12, 16, 24, 18, 48, 20, 96, 22, 192, 24, 72, 26, 16, 28, 32, 30][w.toNat / 8]? = some (lengthOf w).toNat) ∧
  (∀ (s : State) (w : Byte), s.ioHook = true → busWrite 0x4015 w s = .ok () { s with apu := { s.apu with
    p1 := { s.apu.p1 with enabled := w.getLsbD 0, len := if w.getLsbD 0 then s.apu.p1.len else 0 },
    p2 := { s.apu.p2 with enabled := w.getLsbD 1, len := if w.getLsbD 1 then s.apu.p2.len else 0 },
    tri := { s.apu.tri with enabled := w.getLsbD 2, len := if w.getLsbD 2 then s.apu.tri.len else 0 },
    noi := { s.apu.noi with enabled := w.getLsbD 3, len := if w.getLsbD 3 then s.apu.noi.len else 0 } } }) ∧
  (∀ s : State, s.ioHook = true → ∃ w, busRead 0x4015 s = .ok w s ∧
    w.getLsbD 0 = decide (s.apu.p1.len ≠ 0) ∧ w.getLsbD 1 = decide (s.apu.p2.len ≠ 0) ∧
    w.getLsbD 2 = decide (s.apu.tri.len ≠ 0) ∧ w.getLsbD 3 = decide (s.apu.noi.len ≠ 0) ∧
    w.toNat < 16)

/-- R355. The target is an integer, so the equation says that no update wraps. -/
def Obligations.SweepNeverWrapsThePeriod : Prop :=
  ∀ (first : Bool) (p : Pulse),
    let t : Int := p.timer.toNat
    let change : Int := p.timer.toNat / 2 ^ p.swShift.toNat
    let target := if p.swNeg then t - change - (if first then 1 else 0) else t + change
    let r := clockSweep first p
    (r.timer.toNat : Int) =
      (if p.swDiv = 0 ∧ p.swEn = true ∧ p.swShift ≠ 0 ∧ 8 ≤ p.timer.toNat ∧ target ≤ 0x7FF then target else t) ∧
    r = { p with
      timer := r.timer,
      swDiv := if p.swDiv = 0 ∨ p.swReload = true then p.swPeriod else p.swDiv - 1,
      swReload := if p.swDiv = 0 ∨ p.swReload = true then false else p.swReload }

/-- R350, R366. The triples are those of SilencedChannelsEmitZero. R351, R352, R353, R356. What `clockSweep` does
(R355) is SweepNeverWrapsThePeriod. -/
def Obligations.AudioStepAndSequencer : Prop :=
   ((∀ (c0 : Nat) (t : State), finishIteration c0 t = apuStep (t.cyc - c0) (ticks (t.cyc - c0) t)) ∧
    (∀ (clock : Nat) (q : Apu), audioEvent clock q =
      .audioOut (pulseTone clock q.p1) (pulseTone clock q.p2) (triangleTone clock q.tri) (noiseTone clock q.noi)) ∧
    (∀ (n : Nat) (s : State),
      (s.apu.fsDiv + n < s.cfg.apuFrameDivider → (apuStep n s).apu = { s.apu with fsDiv := s.apu.fsDiv + n }) ∧
      (s.cfg.apuFrameDivider ≤ s.apu.fsDiv + n → (apuStep n s).apu =
        sequencerStep { s.apu with fsDiv := s.apu.fsDiv + n - s.cfg.apuFrameDivider }) ∧
      apuStep n s = { s with apu := (apuStep n s).apu,
                             out := audioEvent s.cfg.fixedClock (apuStep n s).apu :: s.out })) ∧
   ((∀ q : Apu,
      let r := sequencerStep q
      let half := q.fsStep = 0 ∨ q.fsStep = 2
      let sweep1 := if half then clockSweep true q.p1 else q.p1
      let sweep2 := if half then clockSweep false q.p2 else q.p2
      r = { q with
        p1 := { q.p1 with len := r.p1.len, envStart := r.p1.envStart, envDiv := r.p1.envDiv, envDecay := r.p1.envDecay,
                          timer := sweep1.timer, swDiv := sweep1.swDiv, swReload := sweep1.swReload },
        p2 := { q.p2 with len := r.p2.len, envStart := r.p2.envStart, envDiv := r.p2.envDiv, envDecay := r.p2.envDecay,
                          timer := sweep2.timer, swDiv := sweep2.swDiv, swReload := sweep2.swReload },
        tri := { q.tri with len := r.tri.len, lin := r.tri.lin, linReload := r.tri.linReload },
        noi := { q.noi with len := r.noi.len, envStart := r.noi.envStart, envDiv := r.noi.envDiv,
                            envDecay := r.noi.envDecay },
        fsStep := r.fsStep } ∧
      r.p1.len = (if half ∧ q.p1.len ≠ 0 ∧ q.p1.halt = false then q.p1.len - 1 else q.p1.len) ∧
      r.p2.len = (if half ∧ q.p2.len ≠ 0 ∧ q.p2.halt = false then q.p2.len - 1 else q.p2.len) ∧
      r.tri.len = (if half ∧ q.tri.len ≠ 0 ∧ q.tri.ctrl = false then q.tri.len - 1 else q.tri.len) ∧
      r.noi.len = (if half ∧ q.noi.len ≠ 0 ∧ q.noi.halt = false then q.noi.len - 1 else q.noi.len) ∧
      r.fsStep = (q.fsStep + 1) % (if q.fsMode then 5 else 4) ∧ r.fsDiv = q.fsDiv ∧ r.fsMode = q.fsMode ∧
      r.tri.lin = (if q.tri.linReload then q.tri.linLoad else if q.tri.lin ≠ 0 then q.tri.lin - 1 else 0) ∧
      r.tri.linReload = (q.tri.linReload && q.tri.ctrl) ∧
      r.p1.envStart = false ∧ r.p2.envStart = false ∧ r.noi.envStart = false ∧
      r.p1.envDiv = (if q.p1.envStart ∨ q.p1.envDiv = 0 then q.p1.vol else q.p1.envDiv - 1) ∧
      r.p2.envDiv = (if q.p2.envStart ∨ q.p2.envDiv = 0 then q.p2.vol else q.p2.envDiv - 1) ∧
      r.noi.envDiv = (if q.noi.envStart ∨ q.noi.envDiv = 0 then q.noi.vol else q.noi.envDiv - 1) ∧
      r.p1.envDecay = (if q.p1.envStart then 15 else if q.p1.envDiv ≠ 0 then q.p1.envDecay
        else if q.p1.envDecay ≠ 0 then q.p1.envDecay - 1 else if q.p1.halt then 15 else 0) ∧
      r.p2.envDecay = (if q.p2.envStart then 15 else if q.p2.envDiv ≠ 0 then q.p2.envDecay
        else if q.p2.envDecay ≠ 0 then q.p2.envDecay - 1 else if q.p2.halt then 15 else 0) ∧
      r.noi.envDecay = (if q.noi.envStart then 15 else if q.noi.envDiv ≠ 0 then q.noi.envDecay
        else if q.noi.envDecay ≠ 0 then q.noi.envDecay - 1 else if q.noi.halt then 15 else 0)) ∧
    (∀ (clock : Nat) (p : Pulse), p.len = 0 → (pulseTone clock p).freq = 0 ∧ (pulseTone clock p).vol = 0) ∧
    (∀ (clock : Nat) (t : Triangle), t.len = 0 → (triangleTone clock t).freq = 0 ∧ (triangleTone clock t).vol = 0) ∧
    (∀ (clock : Nat) (q : Noise), q.len = 0 → (noiseTone clock q).freq = 0 ∧ (noiseTone clock q).vol = 0))

/-- R354, R360, with the table of R347. -/
def Obligations.SilencedChannelsEmitZero : Prop :=
  (∀ (clock : Nat) (p : Pulse),
    ((p.enabled = false ∨ p.len = 0) → pulseTone clock p = { freq := 0, vol := 0, shape := .duty p.duty }) ∧
    (p.enabled = true → p.len ≠ 0 →
      (pulseTone clock p).freq * ((16 * (p.timer.toNat + 1) : Nat) : Rat) = (clock : Rat) ∧
      (pulseTone clock p).vol = (if p.cvol then p.vol else p.envDecay) ∧
      (pulseTone clock p).shape = .duty p.duty)) ∧
  (∀ (clock : Nat) (t : Triangle),
    ((t.enabled = false ∨ t.len = 0 ∨ t.lin = 0) →
      triangleTone clock t = { freq := 0, vol := 0, shape := .plain }) ∧
    (t.enabled = true → t.len ≠ 0 → t.lin ≠ 0 →
      (triangleTone clock t).freq * ((32 * (t.timer.toNat + 1) : Nat) : Rat) = (clock : Rat) ∧
      (triangleTone clock t).vol = 15 ∧ (triangleTone clock t).shape = .plain)) ∧
  (∀ (clock : Nat) (q : Noise),
    ((q.enabled = false ∨ q.len = 0) → noiseTone clock q = { freq := 0, vol := 0, shape := .mode q.mode }) ∧
    (q.enabled = true → q.len ≠ 0 → ∃ n : Nat,
      [4, 8, 16, 32, 64, 96, 128, 160, 202, 254, 380, 508, 762, 1016, 2034, 4068][q.period.toNat]? = some n ∧
      (noiseTone clock q).freq * (n : Rat) = (clock : Rat) ∧
      (noiseTone clock q).vol = (if q.cvol then q.vol else q.envDecay) ∧
      (noiseTone clock q).shape = .mode q.mode))

/-- R371, R372. -/
def Obligations.ControllersReadOutInOrder : Prop :=
  ∀ s : State, s.ioHook = true →
    (∀ w : Byte, busWrite 0x4016 w s = .ok ()
      (if w.getLsbD 0 then { s with ctl := { strobe := true, shift0 := s.buttons0, shift1 := s.buttons1 } }
       else { s with ctl := { s.ctl with strobe := false } })) ∧
    (s.ctl.strobe = true →
      busRead 0x4016 s = .ok (BitVec.ofNat 8 (s.buttons0.toNat % 2)) s ∧
      busRead 0x4017 s = .ok (BitVec.ofNat 8 (s.buttons1.toNat % 2)) s) ∧
    (s.ctl.strobe = false →
      busRead 0x4016 s = .ok (BitVec.ofNat 8 (s.ctl.shift0.toNat % 2))
        { s with ctl := { s.ctl with shift0 := BitVec.ofNat 8 (s.ctl.shift0.toNat / 2 + 128) } } ∧
      busRead 0x4017 s = .ok (BitVec.ofNat 8 (s.ctl.shift1.toNat % 2))
        { s with ctl := { s.ctl with shift1 := BitVec.ofNat 8 (s.ctl.shift1.toNat / 2 + 128) } }) ∧
    (∃ (u : State) (σ : Nat → State), busWrite 0x4016 1 s = .ok () u ∧ busWrite 0x4016 0 u = .ok () (σ 0) ∧
      ∀ k, busRead 0x4016 (σ k) =
        .ok (if k < 8 then BitVec.ofNat 8 (s.buttons0.toNat / 2 ^ k % 2) else 1) (σ (k + 1)))

/-- R380, R394. That "any byte" is a free byte drawn with the count freeReads is the model's choice (log 5). -/
def Obligations.AbsentDiskDoesNothing : Prop :=
  ∀ s : State, s.cfg.diskPresent = false →
    diskTick s = s ∧ irqLine s = false ∧
    (s.ioHook = true → ∀ (a : Word) (w : Byte), 0x4020 ≤ a.toNat → a.toNat ≤ 0x41FF →
      busWrite a w s = .ok () s ∧
      busRead a s = .ok (Config.freeByte s.freeReads) { s with freeReads := s.freeReads + 1 })

/-- R384 to R388, R393, R394, R402, with the Disk System present. R389 to R392, with the Disk System present. -/
def Obligations.DiskRegisterAccesses : Prop :=
   (∀ (s : State) (w : Byte), s.ioHook = true → s.cfg.diskPresent = true →
      busWrite 0x4020 w s = .ok () { s with dsk := { s.dsk with
        tReload := BitVec.ofNat 16 (s.dsk.tReload.toNat / 256 * 256 + w.toNat) } } ∧
      busWrite 0x4021 w s = .ok () { s with dsk := { s.dsk with
        tReload := BitVec.ofNat 16 (w.toNat * 256 + s.dsk.tReload.toNat % 256) } } ∧
      busWrite 0x4022 w s = .ok () { s with dsk := { s.dsk with
        tRepeat := w.getLsbD 0, tEnable := w.getLsbD 1,
        tCounter := if w.getLsbD 1 then s.dsk.tReload else s.dsk.tCounter,
        timerFlag := if w.getLsbD 1 then s.dsk.timerFlag else false } } ∧
      busWrite 0x4023 w s = .ok () { s with dsk := { s.dsk with ioEn := w } } ∧
      busWrite 0x4024 w s = .ok () { s with dsk := { s.dsk with xferFlag := false } } ∧
      busWrite 0x4026 w s = .ok () { s with dsk := { s.dsk with ext := w } } ∧
      busWrite 0x4025 w s = .ok () { s with
        ppu := { s.ppu with mirror := if w.getLsbD 3 then .horizontal else .vertical },
        dsk := if w.getLsbD 0 = false ∨ w.getLsbD 1 = true then
            { s.dsk with ctrl := w, state := .block1, index := s.cfg.diskStart, count := 0, fileCur := 0,
                         latency := s.cfg.diskByteCycles, xferFlag := false }
          else { s.dsk with ctrl := w } } ∧
      (∀ a : Word, 0x4030 ≤ a.toNat → a.toNat ≤ 0x4033 → busWrite a w s = .ok () s)) ∧
   (∀ s : State, s.ioHook = true → s.cfg.diskPresent = true →
      busRead 0x4030 s = .ok (BitVec.ofNat 8 (s.dsk.timerFlag.toNat + 2 * s.dsk.xferFlag.toNat))
        { s with dsk := { s.dsk with timerFlag := false, xferFlag := false } } ∧
      busRead 0x4031 s = .ok s.dsk.data { s with dsk := { s.dsk with xferFlag := false } } ∧
      busRead 0x4032 s = .ok (if s.dsk.ctrl.getLsbD 0 = false ∨ s.dsk.ctrl.getLsbD 1 = true then 6 else 4) s ∧
      busRead 0x4033 s = .ok 0x80 s)

/-- R401. R395, R397. -/
def Obligations.DiskTickRunsTimerAndLatency : Prop :=
   ((∀ q : Disk, q.tEnable = false → timerTick q = q) ∧
    (∀ q : Disk, q.tEnable = true → q.tCounter ≠ 0 → timerTick q = { q with tCounter := q.tCounter - 1 }) ∧
    (∀ q : Disk, q.tEnable = true → q.tCounter = 0 → q.tRepeat = true →
      timerTick q = { q with timerFlag := true, tCounter := q.tReload }) ∧
    (∀ q : Disk, q.tEnable = true → q.tCounter = 0 → q.tRepeat = false →
      timerTick q = { q with timerFlag := true, tEnable := false }) ∧
    (∀ q : Disk, q.tEnable = true → q.timerFlag = false →
      (Nat.repeat timerTick q.tCounter.toNat q).timerFlag = false ∧
      (Nat.repeat timerTick (q.tCounter.toNat + 1) q).timerFlag = true)) ∧
   ((∀ s : State, s.cfg.diskPresent = true → diskTick s = { s with dsk := latencyTick s.cfg (timerTick s.dsk) }) ∧
    (∀ (cfg : Params) (q : Disk),
      let runs := q.ctrl.getLsbD 0 = true ∧ q.ctrl.getLsbD 1 = false ∧ q.ctrl.getLsbD 2 = true ∧ q.xferFlag = false
      (¬ runs → latencyTick cfg q = q) ∧
      (runs → 2 ≤ q.latency → latencyTick cfg q = { q with latency := q.latency - 1 }) ∧
      (runs → q.latency ≤ 1 → latencyTick cfg q =
        { takeByte cfg { q with latency := 0 } with
          data := nextByte cfg q, xferFlag := true, latency := cfg.diskByteCycles })))

/-- R396, R398, R399, R400: one byte taken. -/
def Obligations.DiskDecoderWalksTheBlocks : Prop :=
  ∀ (cfg : Params) (q : Disk), q.count < blockLength q →
    let r := takeByte cfg q
    let w := nextByte cfg q
    let crc := q.state = .block1Crc ∨ q.state = .block2Crc ∨ q.state = .block3Crc ∨ q.state = .block4Crc
    let idx := if cfg.diskImage.length ≤ q.index then cfg.diskStart else q.index
    let moved := if crc ∧ cfg.diskCrcInImage = false then q.index else idx + 1
    let wraps := (q.state = .block2Crc ∧ q.fileTotal = 0) ∨ (q.state = .block4Crc ∧ q.fileTotal ≤ q.fileCur + 1)
    let e := fileAt q.files q.fileCur
    let f := fileAt r.files q.fileCur
    r = { q with state := r.state, index := r.index, count := r.count, fileTotal := r.fileTotal,
                 fileCur := r.fileCur, files := r.files } ∧
    w = (if crc ∧ cfg.diskCrcInImage = false then 0 else cfg.diskImage.getD idx 0) ∧
    (q.count + 1 < blockLength q →
      r.state = q.state ∧ r.count = q.count + 1 ∧ r.fileCur = q.fileCur ∧ r.index = moved) ∧
    (q.count + 1 = blockLength q → r.count = 0 ∧
      (wraps → r.state = .block1 ∧ r.fileCur = 0 ∧ r.index = cfg.diskStart) ∧
      (¬ wraps → r.index = moved ∧ r.fileCur = (if q.state = .block4Crc then q.fileCur + 1 else q.fileCur) ∧
        r.state = (match q.state with
          | .block1 => .block1Crc
          | .block1Crc => .block2
          | .block2 => .block2Crc
          | .block2Crc => .block3
          | .block3 => .block3Crc
          | .block3Crc => .block4
          | .block4 => .block4Crc
          | .block4Crc => .block3))) ∧
    r.fileTotal = (if q.state = .block2 ∧ q.count = 1 then w.toNat else q.fileTotal) ∧
    (q.state ≠ .block3 → r.files = q.files) ∧
    (q.state = .block3 →
      (∀ j, j ≠ q.fileCur → fileAt r.files j = fileAt q.files j) ∧
      f.id = (if q.count = 2 then w else e.id) ∧
      (∀ (j : Nat) (h : j < 8), f.name[j] = if q.count = 3 + j then w else e.name[j]) ∧
      f.address.toNat = (if q.count = 11 then e.address.toNat / 256 * 256 + w.toNat
        else if q.count = 12 then w.toNat * 256 + e.address.toNat % 256 else e.address.toNat) ∧
      f.size.toNat = (if q.count = 13 then e.size.toNat / 256 * 256 + w.toNat
        else if q.count = 14 then w.toNat * 256 + e.size.toNat % 256 else e.size.toNat) ∧
      f.type = (if q.count = 15 then w else e.type)) ∧
    blockLength q = (match q.state with
      | .block1 => 56
      | .block2 => 2
      | .block3 => 16
      | .block4 => 1 + (fileAt q.files q.fileCur).size.toNat
      | .block1Crc | .block2Crc | .block3Crc | .block4Crc => 2)

/-- R121 to R123, R236 (constructors ldaIzx to ldaAbx, ldxImm to ldxAby, ldyImm to ldyAbx, laxIzx to laxAby; every
entry of `ldaForms`, `ldxForms`, `ldyForms`, `laxForms`). -/
def Obligations.LoadsFollowTheirRules : Prop :=
  ReadRule ldaForms (fun v t => { t with a := v, n := v.getLsbD 7, z := decide (v = 0) }) ∧
  ReadRule ldxForms (fun v t => { t with x := v, n := v.getLsbD 7, z := decide (v = 0) }) ∧
  ReadRule ldyForms (fun v t => { t with y := v, n := v.getLsbD 7, z := decide (v = 0) }) ∧
  ReadRule laxForms (fun v t => { t with a := v, x := v, n := v.getLsbD 7, z := decide (v = 0) })

/-- R124 to R126, R235 (every entry of `staForms`, `stxForms`, `styForms`, `saxForms`). What one bus write leaves is
StoredBytesReadBack and WritesChangeOnlyTheirUnit. -/
def Obligations.StoresFollowTheirRules : Prop :=
  StoreRule staForms (fun s => s.a) ∧ StoreRule stxForms (fun s => s.x) ∧ StoreRule styForms (fun s => s.y) ∧
  StoreRule saxForms (fun s => s.a &&& s.x)

/-- R151, R152, R243 with R170, R171 (every entry of `adcForms`, `sbcForms`). The law is stated on integers. -/
def Obligations.AddAndSubtractFollowTheirRules : Prop :=
  (∀ (a m : Byte) (c : Bool),
    let u := a.toNat + m.toNat + c.toNat
    let signed := a.toInt + m.toInt + c.toNat
    (add8 a m c).r = BitVec.ofNat 8 u ∧ ((add8 a m c).carry = true ↔ u > 255) ∧
      ((add8 a m c).overflow = true ↔ signed < -128 ∨ 127 < signed)) ∧
  (∀ (a m : Byte) (c : Bool),
    let diff := (a.toNat : Int) - m.toNat - (1 - c.toNat)
    let signed := a.toInt - m.toInt - (1 - c.toNat)
    ((sub8 a m c).r.toNat : Int) = diff % 256 ∧ ((sub8 a m c).carry = true ↔ 0 ≤ diff) ∧
      ((sub8 a m c).overflow = true ↔ signed < -128 ∨ 127 < signed)) ∧
  ReadRule adcForms (fun m t =>
    let s := add8 t.a m t.c
    { t with a := s.r, c := s.carry, v := s.overflow, n := s.r.getLsbD 7, z := decide (s.r = 0) }) ∧
  ReadRule sbcForms (fun m t =>
    let s := sub8 t.a m t.c
    { t with a := s.r, c := s.carry, v := s.overflow, n := s.r.getLsbD 7, z := decide (s.r = 0) })

/-- R153 to R159, R172 (every entry of `andForms`, `oraForms`, `eorForms`, `bitForms`, `cmpForms`, `cpxForms`,
`cpyForms`). -/
def Obligations.LogicAndCompareFollowTheirRules : Prop :=
  let compares := fun (reg : State → Byte) (m : Byte) (t : State) =>
    { t with c := decide ((reg t).toNat ≥ m.toNat), z := decide (reg t = m),
             n := (BitVec.ofNat 8 ((reg t).toNat + 256 - m.toNat)).getLsbD 7 }
  ReadRule andForms (fun m t => { t with
    a := t.a &&& m, n := (t.a &&& m).getLsbD 7, z := decide (t.a &&& m = 0) }) ∧
  ReadRule oraForms (fun m t => { t with
    a := t.a ||| m, n := (t.a ||| m).getLsbD 7, z := decide (t.a ||| m = 0) }) ∧
  ReadRule eorForms (fun m t => { t with
    a := t.a ^^^ m, n := (t.a ^^^ m).getLsbD 7, z := decide (t.a ^^^ m = 0) }) ∧
  ReadRule bitForms (fun m t => { t with
    z := decide (t.a &&& m = 0), n := m.getLsbD 7, v := m.getLsbD 6 }) ∧
  ReadRule cmpForms (compares fun t => t.a) ∧ ReadRule cpxForms (compares fun t => t.x) ∧
  ReadRule cpyForms (compares fun t => t.y)

/-- R160, R161, R166 to R169, R173, R90 (every entry of `incForms` to `rorForms`, and the four accumulator forms).
Shifts are written as arithmetic on the byte's value. -/
def Obligations.MemoryShiftsAndCountsFollowTheirRules : Prop :=
  let asl := fun (m : Byte) (_ : Bool) => ({ r := BitVec.ofNat 8 (m.toNat * 2), carry := decide (m.toNat ≥ 128) } : Shifted)
  let lsr := fun (m : Byte) (_ : Bool) => ({ r := BitVec.ofNat 8 (m.toNat / 2), carry := decide (m.toNat % 2 = 1) } : Shifted)
  let rol := fun (m : Byte) (c : Bool) =>
    ({ r := BitVec.ofNat 8 (m.toNat * 2 + c.toNat), carry := decide (m.toNat ≥ 128) } : Shifted)
  let ror := fun (m : Byte) (c : Bool) =>
    ({ r := BitVec.ofNat 8 (m.toNat / 2 + c.toNat * 128), carry := decide (m.toNat % 2 = 1) } : Shifted)
  let inc := fun (m : Byte) (c : Bool) => ({ r := BitVec.ofNat 8 (m.toNat + 1), carry := c } : Shifted)
  let dec := fun (m : Byte) (c : Bool) => ({ r := BitVec.ofNat 8 (m.toNat + 255), carry := c } : Shifted)
  let flags := fun (q : Shifted) (t : State) =>
    { t with c := q.carry, n := q.r.getLsbD 7, z := decide (q.r = 0) }
  let counts := fun (q : Shifted) (t : State) => { t with n := q.r.getLsbD 7, z := decide (q.r = 0) }
  let onA := fun (f : Byte → Bool → Shifted) (s : State) => flags (f s.a s.c) { s with a := (f s.a s.c).r }
  RmwRule incForms inc counts ∧ RmwRule decForms dec counts ∧
  RmwRule aslForms asl flags ∧ RmwRule lsrForms lsr flags ∧ RmwRule rolForms rol flags ∧ RmwRule rorForms ror flags ∧
  ImpliedRule 0x0A .aslAcc 2 (onA asl) ∧ ImpliedRule 0x4A .lsrAcc 2 (onA lsr) ∧
  ImpliedRule 0x2A .rolAcc 2 (onA rol) ∧ ImpliedRule 0x6A .rorAcc 2 (onA ror)

/-- R231 to R234, R237, R238, R230 (every entry of `sloForms` to `iscForms`). -/
def Obligations.CombinedOperationsFollowTheirRules : Prop :=
  let asl := fun (m : Byte) (_ : Bool) => ({ r := BitVec.ofNat 8 (m.toNat * 2), carry := decide (m.toNat ≥ 128) } : Shifted)
  let lsr := fun (m : Byte) (_ : Bool) => ({ r := BitVec.ofNat 8 (m.toNat / 2), carry := decide (m.toNat % 2 = 1) } : Shifted)
  let rol := fun (m : Byte) (c : Bool) =>
    ({ r := BitVec.ofNat 8 (m.toNat * 2 + c.toNat), carry := decide (m.toNat ≥ 128) } : Shifted)
  let ror := fun (m : Byte) (c : Bool) =>
    ({ r := BitVec.ofNat 8 (m.toNat / 2 + c.toNat * 128), carry := decide (m.toNat % 2 = 1) } : Shifted)
  let inc := fun (m : Byte) (c : Bool) => ({ r := BitVec.ofNat 8 (m.toNat + 1), carry := c } : Shifted)
  let dec := fun (m : Byte) (c : Bool) => ({ r := BitVec.ofNat 8 (m.toNat + 255), carry := c } : Shifted)
  let result := fun (r : Byte) (c : Bool) (t : State) =>
    { t with a := r, c := c, n := r.getLsbD 7, z := decide (r = 0) }
  let sum := fun (q : Sum) (t : State) =>
    { t with a := q.r, c := q.carry, v := q.overflow, n := q.r.getLsbD 7, z := decide (q.r = 0) }
  RmwRule sloForms asl (fun q t => result (t.a ||| q.r) q.carry t) ∧
  RmwRule rlaForms rol (fun q t => result (t.a &&& q.r) q.carry t) ∧
  RmwRule sreForms lsr (fun q t => result (t.a ^^^ q.r) q.carry t) ∧
  RmwRule rraForms ror (fun q t => sum (add8 t.a q.r q.carry) t) ∧
  RmwRule dcpForms dec (fun q t => { t with
    c := decide (t.a.toNat ≥ q.r.toNat), z := decide (t.a = q.r),
    n := (BitVec.ofNat 8 (t.a.toNat + 256 - q.r.toNat)).getLsbD 7 }) ∧
  RmwRule iscForms inc (fun q t => sum (sub8 t.a q.r t.c) t)

/-- R239, R240, R242, R251 (every entry of `ancForms`, `alrForms`, `arrForms`, `sbxForms`). -/
def Obligations.ImmediateCombinationsFollowTheirRules : Prop :=
  ReadRule ancForms (fun v t =>
    let r := t.a &&& v
    { t with a := r, n := r.getLsbD 7, z := decide (r = 0), c := r.getLsbD 7 }) ∧
  ReadRule alrForms (fun v t =>
    let u := t.a &&& v
    let r := BitVec.ofNat 8 (u.toNat / 2)
    { t with a := r, n := false, z := decide (r = 0), c := u.getLsbD 0 }) ∧
  ReadRule arrForms (fun v t =>
    let r := BitVec.ofNat 8 ((t.a &&& v).toNat / 2 + t.c.toNat * 128)
    { t with a := r, n := t.c, z := decide (r = 0), c := r.getLsbD 6, v := r.getLsbD 6 != r.getLsbD 5 }) ∧
  ReadRule sbxForms (fun v t =>
    let u := t.a &&& t.x
    let r := BitVec.ofNat 8 (u.toNat + 256 - v.toNat)
    { t with x := r, n := r.getLsbD 7, z := decide (r = 0), c := decide (u.toNat ≥ v.toNat) })

/-- R131 to R137, R162 to R165, R206 to R213, R244. R245, R246 (every entry of `nopForms`). -/
def Obligations.OneByteAndNoOpInstructionsFollowTheirRules : Prop :=
   (let toA := fun (v : Byte) (s : State) => { s with a := v, n := v.getLsbD 7, z := decide (v = 0) }
    let toX := fun (v : Byte) (s : State) => { s with x := v, n := v.getLsbD 7, z := decide (v = 0) }
    let toY := fun (v : Byte) (s : State) => { s with y := v, n := v.getLsbD 7, z := decide (v = 0) }
    ImpliedRule 0xAA .tax 2 (fun s => toX s.a s) ∧ ImpliedRule 0xA8 .tay 2 (fun s => toY s.a s) ∧
    ImpliedRule 0x8A .txa 2 (fun s => toA s.x s) ∧ ImpliedRule 0x98 .tya 2 (fun s => toA s.y s) ∧
    ImpliedRule 0xBA .tsx 2 (fun s => toX s.sp s) ∧ ImpliedRule 0x9A .txs 2 (fun s => { s with sp := s.x }) ∧
    ImpliedRule 0xE8 .inx 2 (fun s => toX (BitVec.ofNat 8 (s.x.toNat + 1)) s) ∧
    ImpliedRule 0xC8 .iny 2 (fun s => toY (BitVec.ofNat 8 (s.y.toNat + 1)) s) ∧
    ImpliedRule 0xCA .dex 2 (fun s => toX (BitVec.ofNat 8 (s.x.toNat + 255)) s) ∧
    ImpliedRule 0x88 .dey 2 (fun s => toY (BitVec.ofNat 8 (s.y.toNat + 255)) s) ∧
    ImpliedRule 0x18 .clc 2 (fun s => { s with c := false }) ∧ ImpliedRule 0x38 .sec 2 (fun s => { s with c := true }) ∧
    ImpliedRule 0x58 .cli 2 (fun s => { s with i := false }) ∧ ImpliedRule 0x78 .sei 2 (fun s => { s with i := true }) ∧
    ImpliedRule 0xB8 .clv 2 (fun s => { s with v := false }) ∧ ImpliedRule 0xD8 .cld 2 (fun s => { s with d := false }) ∧
    ImpliedRule 0xF8 .sed 2 (fun s => { s with d := true }) ∧
    ImpliedRule 0xEA .nop 2 (fun s => s) ∧ ImpliedRule 0x1A .nopImp1A 2 (fun s => s) ∧
    ImpliedRule 0x3A .nopImp3A 2 (fun s => s) ∧ ImpliedRule 0x5A .nopImp5A 2 (fun s => s) ∧
    ImpliedRule 0x7A .nopImp7A 2 (fun s => s) ∧ ImpliedRule 0xDA .nopImpDA 2 (fun s => s) ∧
    ImpliedRule 0xFA .nopImpFA 2 (fun s => s)) ∧
   (ReadRule nopForms (fun _ t => t))

/-- R141 to R144, R11. -/
def Obligations.StackInstructionsFollowTheirRules : Prop :=
  encode .pha = [0x48] ∧ encode .php = [0x08] ∧ encode .pla = [0x68] ∧ encode .plp = [0x28] ∧
  (∀ s : State, memoryWf 0 0x800 s.ram = true → ∃ t, exec .pha s = .next t ∧ Pushed [s.a] s t ∧
    t = { s with ram := t.ram, sp := t.sp, cyc := s.cyc + 3 }) ∧
  (∀ s : State, memoryWf 0 0x800 s.ram = true → ∃ t w, exec .php s = .next t ∧ StatusBits true s w ∧ Pushed [w] s t ∧
    t = { s with ram := t.ram, sp := t.sp, cyc := s.cyc + 3 }) ∧
  (∀ s : State, ∃ w, storedByte s (stackAddr (s.sp + 1)) = some w ∧
    exec .pla s = .next { s with a := w, n := w.getLsbD 7, z := decide (w = 0), sp := s.sp + 1, cyc := s.cyc + 4 }) ∧
  (∀ s : State, ∃ w, storedByte s (stackAddr (s.sp + 1)) = some w ∧
    exec .plp s = .next { s with
      n := w.getLsbD 7, v := w.getLsbD 6, d := w.getLsbD 3, i := w.getLsbD 2, z := w.getLsbD 1, c := w.getLsbD 0,
      sp := s.sp + 1, cyc := s.cyc + 4 })

/-- R191 to R194, R93. `s.pc` is past the operand. -/
def Obligations.JumpsCallsAndReturns : Prop :=
  (∀ (a : Word), encode (.jmpAbs a) = [0x4C, lowByte a, highByte a] ∧ encode (.jmpInd a) = [0x6C, lowByte a, highByte a] ∧
    encode (.jsrAbs a) = [0x20, lowByte a, highByte a] ∧ encode .rts = [0x60]) ∧
  (∀ (a : Word) (s : State), exec (.jmpAbs a) s = .next { s with pc := a, cyc := s.cyc + 3 }) ∧
  (∀ (p : Word) (s : State),
    let p2 := if s.cfg.jmpIndPageWrap then BitVec.ofNat 16 (p.toNat / 256 * 256 + (p.toNat + 1) % 256) else p + 1
    (pointerOk p s = true → ∃ lo t hi u, busRead p s = .ok lo t ∧ busRead p2 t = .ok hi u ∧
      exec (.jmpInd p) s = .next { u with pc := hi ++ lo, cyc := u.cyc + 5 }) ∧
    (pointerOk p s = false → ∃ c t, exec (.jmpInd p) s = .fault (.fatal c (latch c t)))) ∧
  (∀ (a : Word) (s : State), memoryWf 0 0x800 s.ram = true →
    ∃ t, exec (.jsrAbs a) s = .next t ∧ Pushed [highByte (s.pc - 1), lowByte (s.pc - 1)] s t ∧
      t = { s with ram := t.ram, sp := t.sp, pc := a, cyc := s.cyc + 6 }) ∧
  (∀ s : State, ∃ lo hi : Byte, storedByte s (stackAddr (s.sp + 1)) = some lo ∧
    storedByte s (stackAddr (s.sp + 2)) = some hi ∧
    exec .rts s = .next { s with pc := (hi ++ lo) + 1, sp := s.sp + 2, cyc := s.cyc + 6 })

/-- R94, R197 to R205. -/
def Obligations.BranchesFollowTheirRules : Prop :=
  BranchRule 0x10 .bpl (fun s => !s.n) ∧ BranchRule 0x30 .bmi (fun s => s.n) ∧
  BranchRule 0x50 .bvc (fun s => !s.v) ∧ BranchRule 0x70 .bvs (fun s => s.v) ∧
  BranchRule 0x90 .bcc (fun s => !s.c) ∧ BranchRule 0xB0 .bcs (fun s => s.c) ∧
  BranchRule 0xD0 .bne (fun s => !s.z) ∧ BranchRule 0xF0 .beq (fun s => s.z)

/-- The frame of every instruction on the CPU: destinations and the "Flags:" parts of R120 to R251. -/
def Obligations.RegistersAndFlagsFrame : Prop :=
  ∀ (i : Instr) (s t : State), exec i s = .next t →
    (∀ r : Reg, r ∉ mayWrite i.row.mnemonic i.row.mode → r.value t = r.value s) ∧
    t.b = s.b ∧ t.nmiReq = s.nmiReq ∧ t.fatal = s.fatal ∧ t.ppuHook = s.ppuHook ∧ t.ioHook = s.ioHook ∧
    t.cfg = s.cfg ∧ t.buttons0 = s.buttons0 ∧ t.buttons1 = s.buttons1 ∧ t.pending = s.pending ∧ t.out = s.out

/-- The frame of every instruction on memory, through `storedByte`; `storeAddrs` computes the addresses with the
functions the meanings use. -/
def Obligations.MemoryFrame : Prop :=
  ∀ (i : Instr) (s t : State), memoryWf 0 0x800 s.ram = true → memoryWf 0x4200 0x10000 s.cart = true →
    exec i s = .next t →
    ∀ a : Word, (∀ b ∈ storeAddrs i s, region a ≠ region b) → storedByte t a = storedByte s a

/-- R60(b), R424: inside an instruction only its own accesses change peripheral state. -/
def Obligations.PeripheralFrame : Prop :=
  ∀ (i : Instr) (s t : State), exec i s = .next t →
    (∀ a ∈ dataAddrs i s, (storedByte s a).isSome = true) →
    t.ppu = s.ppu ∧ t.apu = s.apu ∧ t.ctl = s.ctl ∧ t.dsk = s.dsk ∧ t.freeReads = s.freeReads

end
end

