-- ==== Sys2Proof/Laws/Memory.lean ====
section
/-! SUPPORT. The laws of one memory: what a read after a write gives, and that the canonical form is kept. -/

namespace Sys2Proof.Machine

theorem cellsWf_cons {lo hi k : Nat} {w : Byte} {m : Memory} :
    cellsWf lo hi ((k, w) :: m) = true ↔ (lo ≤ k ∧ k < hi ∧ w ≠ blankByte ∧ cellsWf (k + 1) hi m = true) := by
  simp [cellsWf, and_assoc]

theorem cellsWf_mono {lo lo' hi : Nat} {m : Memory} (hle : lo' ≤ lo) (h : cellsWf lo hi m = true) :
    cellsWf lo' hi m = true := by
  cases m with
  | nil => rfl
  | cons c m =>
    obtain ⟨k, w⟩ := c
    rw [cellsWf_cons] at h ⊢
    exact ⟨by omega, h.2⟩

/-- Below the lower bound of a canonical memory nothing is listed. -/
theorem readCell_below {lo hi k : Nat} {m : Memory} (h : cellsWf lo hi m = true) (hk : k < lo) :
    readCell m k = blankByte := by
  cases m with
  | nil => rfl
  | cons c m =>
    obtain ⟨j, w⟩ := c
    rw [cellsWf_cons] at h
    have h1 : k ≠ j := by omega
    have h2 : k < j := by omega
    simp [readCell, h1, h2]

theorem readCell_consCell (k k' : Nat) (w : Byte) (m : Memory) (h : k' ≤ k → readCell m k' = blankByte) :
    readCell (consCell k w m) k' = if k' = k then w else readCell m k' := by
  unfold consCell
  by_cases hw : w = blankByte
  · by_cases hk : k' = k
    · subst hk; simp [hw, h]
    · simp [hw, hk]
  · by_cases hk : k' = k
    · simp [hw, hk, readCell]
    · by_cases hlt : k' < k
      · simp [hw, hk, hlt, readCell, h (by omega)]
      · simp [hw, hk, hlt, readCell]

/-- A read after a write: the value written at its cell, the old value elsewhere. -/
theorem readCell_writeCell {lo hi : Nat} {m : Memory} (hm : cellsWf lo hi m = true) (k k' : Nat) (w : Byte) :
    readCell (writeCell m k w) k' = if k' = k then w else readCell m k' := by
  induction m generalizing lo with
  | nil => exact readCell_consCell k k' w [] fun _ => rfl
  | cons c m ih =>
    obtain ⟨j, u⟩ := c
    rw [cellsWf_cons] at hm
    obtain ⟨hlo, hhi, hu, ht⟩ := hm
    unfold writeCell
    by_cases hk : k = j
    · subst hk
      rw [if_pos rfl, readCell_consCell _ _ _ _ fun h => readCell_below ht (by omega)]
      by_cases h' : k' = k
      · simp [h']
      · by_cases hlt : k' < k
        · simp [h', hlt, readCell, readCell_below ht (show k' < k + 1 by omega)]
        · simp [h', hlt, readCell]
    · by_cases hlt : k < j
      · rw [if_neg hk, if_pos hlt, readCell_consCell]
        intro h
        have : k' ≠ j := by omega
        have : k' < j := by omega
        simp [readCell, *]
      · rw [if_neg hk, if_neg hlt]
        simp only [readCell, ih ht]
        by_cases h' : k' = j
        · have : k' ≠ k := by omega
          simp [h', Ne.symm hk]
        · by_cases hlt' : k' < j
          · have : k' ≠ k := by omega
            simp [h', hlt', this]
          · simp [h', hlt']

theorem readCell_writeCell_same {lo hi : Nat} {m : Memory} (hm : memoryWf lo hi m = true) (k : Nat) (w : Byte) :
    readCell (writeCell m k w) k = w := by
  simp [readCell_writeCell hm]

theorem readCell_writeCell_other {lo hi : Nat} {m : Memory} (hm : memoryWf lo hi m = true) {k k' : Nat} (w : Byte)
    (h : k' ≠ k) : readCell (writeCell m k w) k' = readCell m k' := by
  simp [readCell_writeCell hm, h]

theorem cellsWf_consCell {lo hi k : Nat} {m : Memory} (w : Byte) (hm : cellsWf (k + 1) hi m = true)
    (hlo : lo ≤ k) (hhi : k < hi) : cellsWf lo hi (consCell k w m) = true := by
  unfold consCell
  split
  · exact cellsWf_mono (by omega) hm
  · rw [cellsWf_cons]; exact ⟨hlo, hhi, ‹_›, hm⟩

/-- A write inside the bounds keeps the canonical form. -/
theorem writeCell_wf {lo hi k : Nat} {m : Memory} (w : Byte) (hm : memoryWf lo hi m = true) (hlo : lo ≤ k)
    (hhi : k < hi) : memoryWf lo hi (writeCell m k w) = true := by
  unfold memoryWf at *
  induction m generalizing lo with
  | nil => exact cellsWf_consCell w rfl hlo hhi
  | cons c m ih =>
    obtain ⟨j, u⟩ := c
    have hm' := cellsWf_cons.1 hm
    obtain ⟨hj, hj', hu, ht⟩ := hm'
    unfold writeCell
    by_cases hk : k = j
    · subst hk; rw [if_pos rfl]; exact cellsWf_consCell w ht hlo hhi
    · by_cases hlt : k < j
      · rw [if_neg hk, if_pos hlt]
        refine cellsWf_consCell w ?_ hlo hhi
        rw [cellsWf_cons]; exact ⟨by omega, hj', hu, ht⟩
      · rw [if_neg hk, if_neg hlt, cellsWf_cons]
        exact ⟨hj, hj', hu, ih ht (by omega)⟩

/-- Loading bytes inside the bounds keeps the canonical form. -/
theorem fillCells_wf {lo hi k : Nat} {m : Memory} (ws : List Byte) (hm : memoryWf lo hi m = true) (hlo : lo ≤ k)
    (hhi : k + ws.length ≤ hi) : memoryWf lo hi (fillCells m k ws) = true := by
  induction ws generalizing m k with
  | nil => exact hm
  | cons w ws ih =>
    simp only [List.length_cons] at hhi
    exact ih (writeCell_wf w hm hlo (by omega)) (by omega) (by omega)

/-- What loading a list of bytes leaves in each cell. -/
theorem readCell_fillCells {lo hi k : Nat} {m : Memory} (ws : List Byte) (hm : memoryWf lo hi m = true) (hlo : lo ≤ k)
    (hhi : k + ws.length ≤ hi) (j : Nat) :
    readCell (fillCells m k ws) j = if k ≤ j then ws.getD (j - k) (readCell m j) else readCell m j := by
  induction ws generalizing m k with
  | nil => simp [fillCells]
  | cons w ws ih =>
    simp only [List.length_cons] at hhi
    rw [fillCells, ih (writeCell_wf w hm hlo (by omega)) (by omega) (by omega), readCell_writeCell hm]
    rcases Nat.lt_trichotomy j k with h | h | h
    · rw [if_neg (by omega), if_neg (by omega), if_neg (by omega)]
    · subst h; rw [if_neg (by omega)]; simp
    · rw [if_pos (by omega), if_neg (by omega), if_pos (by omega), show j - k = (j - (k + 1)) + 1 by omega,
        List.getD_cons_succ]

/-- Canonical memories that read alike are the same data. -/
theorem memory_ext {lo lo' hi hi' : Nat} {m m' : Memory} (hm : memoryWf lo hi m = true)
    (hm' : memoryWf lo' hi' m' = true) (h : ∀ k, readCell m k = readCell m' k) : m = m' := by
  unfold memoryWf at *
  induction m generalizing lo lo' m' with
  | nil =>
    cases m' with
    | nil => rfl
    | cons c m' =>
      obtain ⟨j, u⟩ := c
      have := h j
      simp [readCell] at this
      exact absurd this.symm (cellsWf_cons.1 hm').2.2.1
  | cons c m ih =>
    obtain ⟨j, u⟩ := c
    have hc := cellsWf_cons.1 hm
    cases m' with
    | nil =>
      have := h j
      simp [readCell] at this
      exact absurd this hc.2.2.1
    | cons c' m' =>
      obtain ⟨j', u'⟩ := c'
      have hc' := cellsWf_cons.1 hm'
      have hj : j = j' := by
        rcases Nat.lt_trichotomy j j' with hlt | heq | hgt
        · have := h j
          have hne : j ≠ j' := by omega
          simp [readCell, hne, hlt] at this
          exact absurd this hc.2.2.1
        · exact heq
        · have := h j'
          have hne : j' ≠ j := by omega
          simp [readCell, hne, hgt] at this
          exact absurd this.symm hc'.2.2.1
      subst hj
      have hu : u = u' := by simpa [readCell] using h j
      subst hu
      have : m = m' := by
        refine ih hc.2.2.2 hc'.2.2.2 fun k => ?_
        by_cases hk : k ≤ j
        · rw [readCell_below hc.2.2.2 (by omega), readCell_below hc'.2.2.2 (by omega)]
        · have := h k
          have h1 : k ≠ j := by omega
          have h2 : ¬ k < j := by omega
          simpa [readCell, h1, h2] using this
      rw [this]

end Sys2Proof.Machine
end

