-- ==== Sys2Proof/Laws/State.lean ====
section
/-! SUPPORT. One small lemma per field and update of State, so that no proof unfolds a record update. -/

namespace Sys2Proof.Machine

-- setNZ
@[simp] theorem setNZ_a (w : Byte) (s : State) : (setNZ w s).a = s.a := rfl
@[simp] theorem setNZ_x (w : Byte) (s : State) : (setNZ w s).x = s.x := rfl
@[simp] theorem setNZ_y (w : Byte) (s : State) : (setNZ w s).y = s.y := rfl
@[simp] theorem setNZ_sp (w : Byte) (s : State) : (setNZ w s).sp = s.sp := rfl
@[simp] theorem setNZ_pc (w : Byte) (s : State) : (setNZ w s).pc = s.pc := rfl
@[simp] theorem setNZ_n (w : Byte) (s : State) : (setNZ w s).n = w.getLsbD 7 := rfl
@[simp] theorem setNZ_v (w : Byte) (s : State) : (setNZ w s).v = s.v := rfl
@[simp] theorem setNZ_b (w : Byte) (s : State) : (setNZ w s).b = s.b := rfl
@[simp] theorem setNZ_d (w : Byte) (s : State) : (setNZ w s).d = s.d := rfl
@[simp] theorem setNZ_i (w : Byte) (s : State) : (setNZ w s).i = s.i := rfl
@[simp] theorem setNZ_z (w : Byte) (s : State) : (setNZ w s).z = (w == 0) := rfl
@[simp] theorem setNZ_c (w : Byte) (s : State) : (setNZ w s).c = s.c := rfl
@[simp] theorem setNZ_cyc (w : Byte) (s : State) : (setNZ w s).cyc = s.cyc := rfl
@[simp] theorem setNZ_nmiReq (w : Byte) (s : State) : (setNZ w s).nmiReq = s.nmiReq := rfl
@[simp] theorem setNZ_fatal (w : Byte) (s : State) : (setNZ w s).fatal = s.fatal := rfl
@[simp] theorem setNZ_ram (w : Byte) (s : State) : (setNZ w s).ram = s.ram := rfl
@[simp] theorem setNZ_cart (w : Byte) (s : State) : (setNZ w s).cart = s.cart := rfl
@[simp] theorem setNZ_ppuHook (w : Byte) (s : State) : (setNZ w s).ppuHook = s.ppuHook := rfl
@[simp] theorem setNZ_ioHook (w : Byte) (s : State) : (setNZ w s).ioHook = s.ioHook := rfl
@[simp] theorem setNZ_ppu (w : Byte) (s : State) : (setNZ w s).ppu = s.ppu := rfl
@[simp] theorem setNZ_apu (w : Byte) (s : State) : (setNZ w s).apu = s.apu := rfl
@[simp] theorem setNZ_ctl (w : Byte) (s : State) : (setNZ w s).ctl = s.ctl := rfl
@[simp] theorem setNZ_dsk (w : Byte) (s : State) : (setNZ w s).dsk = s.dsk := rfl
@[simp] theorem setNZ_cfg (w : Byte) (s : State) : (setNZ w s).cfg = s.cfg := rfl
@[simp] theorem setNZ_buttons0 (w : Byte) (s : State) : (setNZ w s).buttons0 = s.buttons0 := rfl
@[simp] theorem setNZ_buttons1 (w : Byte) (s : State) : (setNZ w s).buttons1 = s.buttons1 := rfl
@[simp] theorem setNZ_pending (w : Byte) (s : State) : (setNZ w s).pending = s.pending := rfl
@[simp] theorem setNZ_out (w : Byte) (s : State) : (setNZ w s).out = s.out := rfl
@[simp] theorem setNZ_freeReads (w : Byte) (s : State) : (setNZ w s).freeReads = s.freeReads := rfl

-- setP
@[simp] theorem setP_a (w : Byte) (s : State) : (setP w s).a = s.a := rfl
@[simp] theorem setP_x (w : Byte) (s : State) : (setP w s).x = s.x := rfl
@[simp] theorem setP_y (w : Byte) (s : State) : (setP w s).y = s.y := rfl
@[simp] theorem setP_sp (w : Byte) (s : State) : (setP w s).sp = s.sp := rfl
@[simp] theorem setP_pc (w : Byte) (s : State) : (setP w s).pc = s.pc := rfl
@[simp] theorem setP_n (w : Byte) (s : State) : (setP w s).n = w.getLsbD 7 := rfl
@[simp] theorem setP_v (w : Byte) (s : State) : (setP w s).v = w.getLsbD 6 := rfl
@[simp] theorem setP_b (w : Byte) (s : State) : (setP w s).b = s.b := rfl
@[simp] theorem setP_d (w : Byte) (s : State) : (setP w s).d = w.getLsbD 3 := rfl
@[simp] theorem setP_i (w : Byte) (s : State) : (setP w s).i = w.getLsbD 2 := rfl
@[simp] theorem setP_z (w : Byte) (s : State) : (setP w s).z = w.getLsbD 1 := rfl
@[simp] theorem setP_c (w : Byte) (s : State) : (setP w s).c = w.getLsbD 0 := rfl
@[simp] theorem setP_cyc (w : Byte) (s : State) : (setP w s).cyc = s.cyc := rfl
@[simp] theorem setP_nmiReq (w : Byte) (s : State) : (setP w s).nmiReq = s.nmiReq := rfl
@[simp] theorem setP_fatal (w : Byte) (s : State) : (setP w s).fatal = s.fatal := rfl
@[simp] theorem setP_ram (w : Byte) (s : State) : (setP w s).ram = s.ram := rfl
@[simp] theorem setP_cart (w : Byte) (s : State) : (setP w s).cart = s.cart := rfl
@[simp] theorem setP_ppuHook (w : Byte) (s : State) : (setP w s).ppuHook = s.ppuHook := rfl
@[simp] theorem setP_ioHook (w : Byte) (s : State) : (setP w s).ioHook = s.ioHook := rfl
@[simp] theorem setP_ppu (w : Byte) (s : State) : (setP w s).ppu = s.ppu := rfl
@[simp] theorem setP_apu (w : Byte) (s : State) : (setP w s).apu = s.apu := rfl
@[simp] theorem setP_ctl (w : Byte) (s : State) : (setP w s).ctl = s.ctl := rfl
@[simp] theorem setP_dsk (w : Byte) (s : State) : (setP w s).dsk = s.dsk := rfl
@[simp] theorem setP_cfg (w : Byte) (s : State) : (setP w s).cfg = s.cfg := rfl
@[simp] theorem setP_buttons0 (w : Byte) (s : State) : (setP w s).buttons0 = s.buttons0 := rfl
@[simp] theorem setP_buttons1 (w : Byte) (s : State) : (setP w s).buttons1 = s.buttons1 := rfl
@[simp] theorem setP_pending (w : Byte) (s : State) : (setP w s).pending = s.pending := rfl
@[simp] theorem setP_out (w : Byte) (s : State) : (setP w s).out = s.out := rfl
@[simp] theorem setP_freeReads (w : Byte) (s : State) : (setP w s).freeReads = s.freeReads := rfl

-- push
@[simp] theorem push_a (w : Byte) (s : State) : (push w s).a = s.a := rfl
@[simp] theorem push_x (w : Byte) (s : State) : (push w s).x = s.x := rfl
@[simp] theorem push_y (w : Byte) (s : State) : (push w s).y = s.y := rfl
@[simp] theorem push_sp (w : Byte) (s : State) : (push w s).sp = s.sp - 1 := rfl
@[simp] theorem push_pc (w : Byte) (s : State) : (push w s).pc = s.pc := rfl
@[simp] theorem push_n (w : Byte) (s : State) : (push w s).n = s.n := rfl
@[simp] theorem push_v (w : Byte) (s : State) : (push w s).v = s.v := rfl
@[simp] theorem push_b (w : Byte) (s : State) : (push w s).b = s.b := rfl
@[simp] theorem push_d (w : Byte) (s : State) : (push w s).d = s.d := rfl
@[simp] theorem push_i (w : Byte) (s : State) : (push w s).i = s.i := rfl
@[simp] theorem push_z (w : Byte) (s : State) : (push w s).z = s.z := rfl
@[simp] theorem push_c (w : Byte) (s : State) : (push w s).c = s.c := rfl
@[simp] theorem push_cyc (w : Byte) (s : State) : (push w s).cyc = s.cyc := rfl
@[simp] theorem push_nmiReq (w : Byte) (s : State) : (push w s).nmiReq = s.nmiReq := rfl
@[simp] theorem push_fatal (w : Byte) (s : State) : (push w s).fatal = s.fatal := rfl
@[simp] theorem push_ram (w : Byte) (s : State) : (push w s).ram = writeCell s.ram (stackCell s.sp) w := rfl
@[simp] theorem push_cart (w : Byte) (s : State) : (push w s).cart = s.cart := rfl
@[simp] theorem push_ppuHook (w : Byte) (s : State) : (push w s).ppuHook = s.ppuHook := rfl
@[simp] theorem push_ioHook (w : Byte) (s : State) : (push w s).ioHook = s.ioHook := rfl
@[simp] theorem push_ppu (w : Byte) (s : State) : (push w s).ppu = s.ppu := rfl
@[simp] theorem push_apu (w : Byte) (s : State) : (push w s).apu = s.apu := rfl
@[simp] theorem push_ctl (w : Byte) (s : State) : (push w s).ctl = s.ctl := rfl
@[simp] theorem push_dsk (w : Byte) (s : State) : (push w s).dsk = s.dsk := rfl
@[simp] theorem push_cfg (w : Byte) (s : State) : (push w s).cfg = s.cfg := rfl
@[simp] theorem push_buttons0 (w : Byte) (s : State) : (push w s).buttons0 = s.buttons0 := rfl
@[simp] theorem push_buttons1 (w : Byte) (s : State) : (push w s).buttons1 = s.buttons1 := rfl
@[simp] theorem push_pending (w : Byte) (s : State) : (push w s).pending = s.pending := rfl
@[simp] theorem push_out (w : Byte) (s : State) : (push w s).out = s.out := rfl
@[simp] theorem push_freeReads (w : Byte) (s : State) : (push w s).freeReads = s.freeReads := rfl

-- pulled
@[simp] theorem pulled_a (s : State) : (pulled s).a = s.a := rfl
@[simp] theorem pulled_x (s : State) : (pulled s).x = s.x := rfl
@[simp] theorem pulled_y (s : State) : (pulled s).y = s.y := rfl
@[simp] theorem pulled_sp (s : State) : (pulled s).sp = s.sp + 1 := rfl
@[simp] theorem pulled_pc (s : State) : (pulled s).pc = s.pc := rfl
@[simp] theorem pulled_n (s : State) : (pulled s).n = s.n := rfl
@[simp] theorem pulled_v (s : State) : (pulled s).v = s.v := rfl
@[simp] theorem pulled_b (s : State) : (pulled s).b = s.b := rfl
@[simp] theorem pulled_d (s : State) : (pulled s).d = s.d := rfl
@[simp] theorem pulled_i (s : State) : (pulled s).i = s.i := rfl
@[simp] theorem pulled_z (s : State) : (pulled s).z = s.z := rfl
@[simp] theorem pulled_c (s : State) : (pulled s).c = s.c := rfl
@[simp] theorem pulled_cyc (s : State) : (pulled s).cyc = s.cyc := rfl
@[simp] theorem pulled_nmiReq (s : State) : (pulled s).nmiReq = s.nmiReq := rfl
@[simp] theorem pulled_fatal (s : State) : (pulled s).fatal = s.fatal := rfl
@[simp] theorem pulled_ram (s : State) : (pulled s).ram = s.ram := rfl
@[simp] theorem pulled_cart (s : State) : (pulled s).cart = s.cart := rfl
@[simp] theorem pulled_ppuHook (s : State) : (pulled s).ppuHook = s.ppuHook := rfl
@[simp] theorem pulled_ioHook (s : State) : (pulled s).ioHook = s.ioHook := rfl
@[simp] theorem pulled_ppu (s : State) : (pulled s).ppu = s.ppu := rfl
@[simp] theorem pulled_apu (s : State) : (pulled s).apu = s.apu := rfl
@[simp] theorem pulled_ctl (s : State) : (pulled s).ctl = s.ctl := rfl
@[simp] theorem pulled_dsk (s : State) : (pulled s).dsk = s.dsk := rfl
@[simp] theorem pulled_cfg (s : State) : (pulled s).cfg = s.cfg := rfl
@[simp] theorem pulled_buttons0 (s : State) : (pulled s).buttons0 = s.buttons0 := rfl
@[simp] theorem pulled_buttons1 (s : State) : (pulled s).buttons1 = s.buttons1 := rfl
@[simp] theorem pulled_pending (s : State) : (pulled s).pending = s.pending := rfl
@[simp] theorem pulled_out (s : State) : (pulled s).out = s.out := rfl
@[simp] theorem pulled_freeReads (s : State) : (pulled s).freeReads = s.freeReads := rfl

-- spend
@[simp] theorem spend_a (k : Nat) (s : State) : (spend k s).a = s.a := rfl
@[simp] theorem spend_x (k : Nat) (s : State) : (spend k s).x = s.x := rfl
@[simp] theorem spend_y (k : Nat) (s : State) : (spend k s).y = s.y := rfl
@[simp] theorem spend_sp (k : Nat) (s : State) : (spend k s).sp = s.sp := rfl
@[simp] theorem spend_pc (k : Nat) (s : State) : (spend k s).pc = s.pc := rfl
@[simp] theorem spend_n (k : Nat) (s : State) : (spend k s).n = s.n := rfl
@[simp] theorem spend_v (k : Nat) (s : State) : (spend k s).v = s.v := rfl
@[simp] theorem spend_b (k : Nat) (s : State) : (spend k s).b = s.b := rfl
@[simp] theorem spend_d (k : Nat) (s : State) : (spend k s).d = s.d := rfl
@[simp] theorem spend_i (k : Nat) (s : State) : (spend k s).i = s.i := rfl
@[simp] theorem spend_z (k : Nat) (s : State) : (spend k s).z = s.z := rfl
@[simp] theorem spend_c (k : Nat) (s : State) : (spend k s).c = s.c := rfl
@[simp] theorem spend_cyc (k : Nat) (s : State) : (spend k s).cyc = s.cyc + k := rfl
@[simp] theorem spend_nmiReq (k : Nat) (s : State) : (spend k s).nmiReq = s.nmiReq := rfl
@[simp] theorem spend_fatal (k : Nat) (s : State) : (spend k s).fatal = s.fatal := rfl
@[simp] theorem spend_ram (k : Nat) (s : State) : (spend k s).ram = s.ram := rfl
@[simp] theorem spend_cart (k : Nat) (s : State) : (spend k s).cart = s.cart := rfl
@[simp] theorem spend_ppuHook (k : Nat) (s : State) : (spend k s).ppuHook = s.ppuHook := rfl
@[simp] theorem spend_ioHook (k : Nat) (s : State) : (spend k s).ioHook = s.ioHook := rfl
@[simp] theorem spend_ppu (k : Nat) (s : State) : (spend k s).ppu = s.ppu := rfl
@[simp] theorem spend_apu (k : Nat) (s : State) : (spend k s).apu = s.apu := rfl
@[simp] theorem spend_ctl (k : Nat) (s : State) : (spend k s).ctl = s.ctl := rfl
@[simp] theorem spend_dsk (k : Nat) (s : State) : (spend k s).dsk = s.dsk := rfl
@[simp] theorem spend_cfg (k : Nat) (s : State) : (spend k s).cfg = s.cfg := rfl
@[simp] theorem spend_buttons0 (k : Nat) (s : State) : (spend k s).buttons0 = s.buttons0 := rfl
@[simp] theorem spend_buttons1 (k : Nat) (s : State) : (spend k s).buttons1 = s.buttons1 := rfl
@[simp] theorem spend_pending (k : Nat) (s : State) : (spend k s).pending = s.pending := rfl
@[simp] theorem spend_out (k : Nat) (s : State) : (spend k s).out = s.out := rfl
@[simp] theorem spend_freeReads (k : Nat) (s : State) : (spend k s).freeReads = s.freeReads := rfl

-- compare
@[simp] theorem compare_a (r m : Byte) (s : State) : (compare r m s).a = s.a := rfl
@[simp] theorem compare_x (r m : Byte) (s : State) : (compare r m s).x = s.x := rfl
@[simp] theorem compare_y (r m : Byte) (s : State) : (compare r m s).y = s.y := rfl
@[simp] theorem compare_sp (r m : Byte) (s : State) : (compare r m s).sp = s.sp := rfl
@[simp] theorem compare_pc (r m : Byte) (s : State) : (compare r m s).pc = s.pc := rfl
@[simp] theorem compare_n (r m : Byte) (s : State) : (compare r m s).n = (r - m).getLsbD 7 := rfl
@[simp] theorem compare_v (r m : Byte) (s : State) : (compare r m s).v = s.v := rfl
@[simp] theorem compare_b (r m : Byte) (s : State) : (compare r m s).b = s.b := rfl
@[simp] theorem compare_d (r m : Byte) (s : State) : (compare r m s).d = s.d := rfl
@[simp] theorem compare_i (r m : Byte) (s : State) : (compare r m s).i = s.i := rfl
@[simp] theorem compare_z (r m : Byte) (s : State) : (compare r m s).z = (r == m) := rfl
@[simp] theorem compare_c (r m : Byte) (s : State) : (compare r m s).c = decide (m.toNat ≤ r.toNat) := rfl
@[simp] theorem compare_cyc (r m : Byte) (s : State) : (compare r m s).cyc = s.cyc := rfl
@[simp] theorem compare_nmiReq (r m : Byte) (s : State) : (compare r m s).nmiReq = s.nmiReq := rfl
@[simp] theorem compare_fatal (r m : Byte) (s : State) : (compare r m s).fatal = s.fatal := rfl
@[simp] theorem compare_ram (r m : Byte) (s : State) : (compare r m s).ram = s.ram := rfl
@[simp] theorem compare_cart (r m : Byte) (s : State) : (compare r m s).cart = s.cart := rfl
@[simp] theorem compare_ppuHook (r m : Byte) (s : State) : (compare r m s).ppuHook = s.ppuHook := rfl
@[simp] theorem compare_ioHook (r m : Byte) (s : State) : (compare r m s).ioHook = s.ioHook := rfl
@[simp] theorem compare_ppu (r m : Byte) (s : State) : (compare r m s).ppu = s.ppu := rfl
@[simp] theorem compare_apu (r m : Byte) (s : State) : (compare r m s).apu = s.apu := rfl
@[simp] theorem compare_ctl (r m : Byte) (s : State) : (compare r m s).ctl = s.ctl := rfl
@[simp] theorem compare_dsk (r m : Byte) (s : State) : (compare r m s).dsk = s.dsk := rfl
@[simp] theorem compare_cfg (r m : Byte) (s : State) : (compare r m s).cfg = s.cfg := rfl
@[simp] theorem compare_buttons0 (r m : Byte) (s : State) : (compare r m s).buttons0 = s.buttons0 := rfl
@[simp] theorem compare_buttons1 (r m : Byte) (s : State) : (compare r m s).buttons1 = s.buttons1 := rfl
@[simp] theorem compare_pending (r m : Byte) (s : State) : (compare r m s).pending = s.pending := rfl
@[simp] theorem compare_out (r m : Byte) (s : State) : (compare r m s).out = s.out := rfl
@[simp] theorem compare_freeReads (r m : Byte) (s : State) : (compare r m s).freeReads = s.freeReads := rfl

-- setSum
@[simp] theorem setSum_a (t : Sum) (s : State) : (setSum t s).a = t.r := rfl
@[simp] theorem setSum_x (t : Sum) (s : State) : (setSum t s).x = s.x := rfl
@[simp] theorem setSum_y (t : Sum) (s : State) : (setSum t s).y = s.y := rfl
@[simp] theorem setSum_sp (t : Sum) (s : State) : (setSum t s).sp = s.sp := rfl
@[simp] theorem setSum_pc (t : Sum) (s : State) : (setSum t s).pc = s.pc := rfl
@[simp] theorem setSum_n (t : Sum) (s : State) : (setSum t s).n = t.r.getLsbD 7 := rfl
@[simp] theorem setSum_v (t : Sum) (s : State) : (setSum t s).v = t.overflow := rfl
@[simp] theorem setSum_b (t : Sum) (s : State) : (setSum t s).b = s.b := rfl
@[simp] theorem setSum_d (t : Sum) (s : State) : (setSum t s).d = s.d := rfl
@[simp] theorem setSum_i (t : Sum) (s : State) : (setSum t s).i = s.i := rfl
@[simp] theorem setSum_z (t : Sum) (s : State) : (setSum t s).z = (t.r == 0) := rfl
@[simp] theorem setSum_c (t : Sum) (s : State) : (setSum t s).c = t.carry := rfl
@[simp] theorem setSum_cyc (t : Sum) (s : State) : (setSum t s).cyc = s.cyc := rfl
@[simp] theorem setSum_nmiReq (t : Sum) (s : State) : (setSum t s).nmiReq = s.nmiReq := rfl
@[simp] theorem setSum_fatal (t : Sum) (s : State) : (setSum t s).fatal = s.fatal := rfl
@[simp] theorem setSum_ram (t : Sum) (s : State) : (setSum t s).ram = s.ram := rfl
@[simp] theorem setSum_cart (t : Sum) (s : State) : (setSum t s).cart = s.cart := rfl
@[simp] theorem setSum_ppuHook (t : Sum) (s : State) : (setSum t s).ppuHook = s.ppuHook := rfl
@[simp] theorem setSum_ioHook (t : Sum) (s : State) : (setSum t s).ioHook = s.ioHook := rfl
@[simp] theorem setSum_ppu (t : Sum) (s : State) : (setSum t s).ppu = s.ppu := rfl
@[simp] theorem setSum_apu (t : Sum) (s : State) : (setSum t s).apu = s.apu := rfl
@[simp] theorem setSum_ctl (t : Sum) (s : State) : (setSum t s).ctl = s.ctl := rfl
@[simp] theorem setSum_dsk (t : Sum) (s : State) : (setSum t s).dsk = s.dsk := rfl
@[simp] theorem setSum_cfg (t : Sum) (s : State) : (setSum t s).cfg = s.cfg := rfl
@[simp] theorem setSum_buttons0 (t : Sum) (s : State) : (setSum t s).buttons0 = s.buttons0 := rfl
@[simp] theorem setSum_buttons1 (t : Sum) (s : State) : (setSum t s).buttons1 = s.buttons1 := rfl
@[simp] theorem setSum_pending (t : Sum) (s : State) : (setSum t s).pending = s.pending := rfl
@[simp] theorem setSum_out (t : Sum) (s : State) : (setSum t s).out = s.out := rfl
@[simp] theorem setSum_freeReads (t : Sum) (s : State) : (setSum t s).freeReads = s.freeReads := rfl

-- loadA
@[simp] theorem loadA_a (w : Byte) (s : State) : (loadA w s).a = w := rfl
@[simp] theorem loadA_x (w : Byte) (s : State) : (loadA w s).x = s.x := rfl
@[simp] theorem loadA_y (w : Byte) (s : State) : (loadA w s).y = s.y := rfl
@[simp] theorem loadA_sp (w : Byte) (s : State) : (loadA w s).sp = s.sp := rfl
@[simp] theorem loadA_pc (w : Byte) (s : State) : (loadA w s).pc = s.pc := rfl
@[simp] theorem loadA_n (w : Byte) (s : State) : (loadA w s).n = w.getLsbD 7 := rfl
@[simp] theorem loadA_v (w : Byte) (s : State) : (loadA w s).v = s.v := rfl
@[simp] theorem loadA_b (w : Byte) (s : State) : (loadA w s).b = s.b := rfl
@[simp] theorem loadA_d (w : Byte) (s : State) : (loadA w s).d = s.d := rfl
@[simp] theorem loadA_i (w : Byte) (s : State) : (loadA w s).i = s.i := rfl
@[simp] theorem loadA_z (w : Byte) (s : State) : (loadA w s).z = (w == 0) := rfl
@[simp] theorem loadA_c (w : Byte) (s : State) : (loadA w s).c = s.c := rfl
@[simp] theorem loadA_cyc (w : Byte) (s : State) : (loadA w s).cyc = s.cyc := rfl
@[simp] theorem loadA_nmiReq (w : Byte) (s : State) : (loadA w s).nmiReq = s.nmiReq := rfl
@[simp] theorem loadA_fatal (w : Byte) (s : State) : (loadA w s).fatal = s.fatal := rfl
@[simp] theorem loadA_ram (w : Byte) (s : State) : (loadA w s).ram = s.ram := rfl
@[simp] theorem loadA_cart (w : Byte) (s : State) : (loadA w s).cart = s.cart := rfl
@[simp] theorem loadA_ppuHook (w : Byte) (s : State) : (loadA w s).ppuHook = s.ppuHook := rfl
@[simp] theorem loadA_ioHook (w : Byte) (s : State) : (loadA w s).ioHook = s.ioHook := rfl
@[simp] theorem loadA_ppu (w : Byte) (s : State) : (loadA w s).ppu = s.ppu := rfl
@[simp] theorem loadA_apu (w : Byte) (s : State) : (loadA w s).apu = s.apu := rfl
@[simp] theorem loadA_ctl (w : Byte) (s : State) : (loadA w s).ctl = s.ctl := rfl
@[simp] theorem loadA_dsk (w : Byte) (s : State) : (loadA w s).dsk = s.dsk := rfl
@[simp] theorem loadA_cfg (w : Byte) (s : State) : (loadA w s).cfg = s.cfg := rfl
@[simp] theorem loadA_buttons0 (w : Byte) (s : State) : (loadA w s).buttons0 = s.buttons0 := rfl
@[simp] theorem loadA_buttons1 (w : Byte) (s : State) : (loadA w s).buttons1 = s.buttons1 := rfl
@[simp] theorem loadA_pending (w : Byte) (s : State) : (loadA w s).pending = s.pending := rfl
@[simp] theorem loadA_out (w : Byte) (s : State) : (loadA w s).out = s.out := rfl
@[simp] theorem loadA_freeReads (w : Byte) (s : State) : (loadA w s).freeReads = s.freeReads := rfl

-- loadX
@[simp] theorem loadX_a (w : Byte) (s : State) : (loadX w s).a = s.a := rfl
@[simp] theorem loadX_x (w : Byte) (s : State) : (loadX w s).x = w := rfl
@[simp] theorem loadX_y (w : Byte) (s : State) : (loadX w s).y = s.y := rfl
@[simp] theorem loadX_sp (w : Byte) (s : State) : (loadX w s).sp = s.sp := rfl
@[simp] theorem loadX_pc (w : Byte) (s : State) : (loadX w s).pc = s.pc := rfl
@[simp] theorem loadX_n (w : Byte) (s : State) : (loadX w s).n = w.getLsbD 7 := rfl
@[simp] theorem loadX_v (w : Byte) (s : State) : (loadX w s).v = s.v := rfl
@[simp] theorem loadX_b (w : Byte) (s : State) : (loadX w s).b = s.b := rfl
@[simp] theorem loadX_d (w : Byte) (s : State) : (loadX w s).d = s.d := rfl
@[simp] theorem loadX_i (w : Byte) (s : State) : (loadX w s).i = s.i := rfl
@[simp] theorem loadX_z (w : Byte) (s : State) : (loadX w s).z = (w == 0) := rfl
@[simp] theorem loadX_c (w : Byte) (s : State) : (loadX w s).c = s.c := rfl
@[simp] theorem loadX_cyc (w : Byte) (s : State) : (loadX w s).cyc = s.cyc := rfl
@[simp] theorem loadX_nmiReq (w : Byte) (s : State) : (loadX w s).nmiReq = s.nmiReq := rfl
@[simp] theorem loadX_fatal (w : Byte) (s : State) : (loadX w s).fatal = s.fatal := rfl
@[simp] theorem loadX_ram (w : Byte) (s : State) : (loadX w s).ram = s.ram := rfl
@[simp] theorem loadX_cart (w : Byte) (s : State) : (loadX w s).cart = s.cart := rfl
@[simp] theorem loadX_ppuHook (w : Byte) (s : State) : (loadX w s).ppuHook = s.ppuHook := rfl
@[simp] theorem loadX_ioHook (w : Byte) (s : State) : (loadX w s).ioHook = s.ioHook := rfl
@[simp] theorem loadX_ppu (w : Byte) (s : State) : (loadX w s).ppu = s.ppu := rfl
@[simp] theorem loadX_apu (w : Byte) (s : State) : (loadX w s).apu = s.apu := rfl
@[simp] theorem loadX_ctl (w : Byte) (s : State) : (loadX w s).ctl = s.ctl := rfl
@[simp] theorem loadX_dsk (w : Byte) (s : State) : (loadX w s).dsk = s.dsk := rfl
@[simp] theorem loadX_cfg (w : Byte) (s : State) : (loadX w s).cfg = s.cfg := rfl
@[simp] theorem loadX_buttons0 (w : Byte) (s : State) : (loadX w s).buttons0 = s.buttons0 := rfl
@[simp] theorem loadX_buttons1 (w : Byte) (s : State) : (loadX w s).buttons1 = s.buttons1 := rfl
@[simp] theorem loadX_pending (w : Byte) (s : State) : (loadX w s).pending = s.pending := rfl
@[simp] theorem loadX_out (w : Byte) (s : State) : (loadX w s).out = s.out := rfl
@[simp] theorem loadX_freeReads (w : Byte) (s : State) : (loadX w s).freeReads = s.freeReads := rfl

-- loadY
@[simp] theorem loadY_a (w : Byte) (s : State) : (loadY w s).a = s.a := rfl
@[simp] theorem loadY_x (w : Byte) (s : State) : (loadY w s).x = s.x := rfl
@[simp] theorem loadY_y (w : Byte) (s : State) : (loadY w s).y = w := rfl
@[simp] theorem loadY_sp (w : Byte) (s : State) : (loadY w s).sp = s.sp := rfl
@[simp] theorem loadY_pc (w : Byte) (s : State) : (loadY w s).pc = s.pc := rfl
@[simp] theorem loadY_n (w : Byte) (s : State) : (loadY w s).n = w.getLsbD 7 := rfl
@[simp] theorem loadY_v (w : Byte) (s : State) : (loadY w s).v = s.v := rfl
@[simp] theorem loadY_b (w : Byte) (s : State) : (loadY w s).b = s.b := rfl
@[simp] theorem loadY_d (w : Byte) (s : State) : (loadY w s).d = s.d := rfl
@[simp] theorem loadY_i (w : Byte) (s : State) : (loadY w s).i = s.i := rfl
@[simp] theorem loadY_z (w : Byte) (s : State) : (loadY w s).z = (w == 0) := rfl
@[simp] theorem loadY_c (w : Byte) (s : State) : (loadY w s).c = s.c := rfl
@[simp] theorem loadY_cyc (w : Byte) (s : State) : (loadY w s).cyc = s.cyc := rfl
@[simp] theorem loadY_nmiReq (w : Byte) (s : State) : (loadY w s).nmiReq = s.nmiReq := rfl
@[simp] theorem loadY_fatal (w : Byte) (s : State) : (loadY w s).fatal = s.fatal := rfl
@[simp] theorem loadY_ram (w : Byte) (s : State) : (loadY w s).ram = s.ram := rfl
@[simp] theorem loadY_cart (w : Byte) (s : State) : (loadY w s).cart = s.cart := rfl
@[simp] theorem loadY_ppuHook (w : Byte) (s : State) : (loadY w s).ppuHook = s.ppuHook := rfl
@[simp] theorem loadY_ioHook (w : Byte) (s : State) : (loadY w s).ioHook = s.ioHook := rfl
@[simp] theorem loadY_ppu (w : Byte) (s : State) : (loadY w s).ppu = s.ppu := rfl
@[simp] theorem loadY_apu (w : Byte) (s : State) : (loadY w s).apu = s.apu := rfl
@[simp] theorem loadY_ctl (w : Byte) (s : State) : (loadY w s).ctl = s.ctl := rfl
@[simp] theorem loadY_dsk (w : Byte) (s : State) : (loadY w s).dsk = s.dsk := rfl
@[simp] theorem loadY_cfg (w : Byte) (s : State) : (loadY w s).cfg = s.cfg := rfl
@[simp] theorem loadY_buttons0 (w : Byte) (s : State) : (loadY w s).buttons0 = s.buttons0 := rfl
@[simp] theorem loadY_buttons1 (w : Byte) (s : State) : (loadY w s).buttons1 = s.buttons1 := rfl
@[simp] theorem loadY_pending (w : Byte) (s : State) : (loadY w s).pending = s.pending := rfl
@[simp] theorem loadY_out (w : Byte) (s : State) : (loadY w s).out = s.out := rfl
@[simp] theorem loadY_freeReads (w : Byte) (s : State) : (loadY w s).freeReads = s.freeReads := rfl

-- loadAX
@[simp] theorem loadAX_a (w : Byte) (s : State) : (loadAX w s).a = w := rfl
@[simp] theorem loadAX_x (w : Byte) (s : State) : (loadAX w s).x = w := rfl
@[simp] theorem loadAX_y (w : Byte) (s : State) : (loadAX w s).y = s.y := rfl
@[simp] theorem loadAX_sp (w : Byte) (s : State) : (loadAX w s).sp = s.sp := rfl
@[simp] theorem loadAX_pc (w : Byte) (s : State) : (loadAX w s).pc = s.pc := rfl
@[simp] theorem loadAX_n (w : Byte) (s : State) : (loadAX w s).n = w.getLsbD 7 := rfl
@[simp] theorem loadAX_v (w : Byte) (s : State) : (loadAX w s).v = s.v := rfl
@[simp] theorem loadAX_b (w : Byte) (s : State) : (loadAX w s).b = s.b := rfl
@[simp] theorem loadAX_d (w : Byte) (s : State) : (loadAX w s).d = s.d := rfl
@[simp] theorem loadAX_i (w : Byte) (s : State) : (loadAX w s).i = s.i := rfl
@[simp] theorem loadAX_z (w : Byte) (s : State) : (loadAX w s).z = (w == 0) := rfl
@[simp] theorem loadAX_c (w : Byte) (s : State) : (loadAX w s).c = s.c := rfl
@[simp] theorem loadAX_cyc (w : Byte) (s : State) : (loadAX w s).cyc = s.cyc := rfl
@[simp] theorem loadAX_nmiReq (w : Byte) (s : State) : (loadAX w s).nmiReq = s.nmiReq := rfl
@[simp] theorem loadAX_fatal (w : Byte) (s : State) : (loadAX w s).fatal = s.fatal := rfl
@[simp] theorem loadAX_ram (w : Byte) (s : State) : (loadAX w s).ram = s.ram := rfl
@[simp] theorem loadAX_cart (w : Byte) (s : State) : (loadAX w s).cart = s.cart := rfl
@[simp] theorem loadAX_ppuHook (w : Byte) (s : State) : (loadAX w s).ppuHook = s.ppuHook := rfl
@[simp] theorem loadAX_ioHook (w : Byte) (s : State) : (loadAX w s).ioHook = s.ioHook := rfl
@[simp] theorem loadAX_ppu (w : Byte) (s : State) : (loadAX w s).ppu = s.ppu := rfl
@[simp] theorem loadAX_apu (w : Byte) (s : State) : (loadAX w s).apu = s.apu := rfl
@[simp] theorem loadAX_ctl (w : Byte) (s : State) : (loadAX w s).ctl = s.ctl := rfl
@[simp] theorem loadAX_dsk (w : Byte) (s : State) : (loadAX w s).dsk = s.dsk := rfl
@[simp] theorem loadAX_cfg (w : Byte) (s : State) : (loadAX w s).cfg = s.cfg := rfl
@[simp] theorem loadAX_buttons0 (w : Byte) (s : State) : (loadAX w s).buttons0 = s.buttons0 := rfl
@[simp] theorem loadAX_buttons1 (w : Byte) (s : State) : (loadAX w s).buttons1 = s.buttons1 := rfl
@[simp] theorem loadAX_pending (w : Byte) (s : State) : (loadAX w s).pending = s.pending := rfl
@[simp] theorem loadAX_out (w : Byte) (s : State) : (loadAX w s).out = s.out := rfl
@[simp] theorem loadAX_freeReads (w : Byte) (s : State) : (loadAX w s).freeReads = s.freeReads := rfl

-- latch
@[simp] theorem latch_a (f : Fatal) (s : State) : (latch f s).a = s.a := rfl
@[simp] theorem latch_x (f : Fatal) (s : State) : (latch f s).x = s.x := rfl
@[simp] theorem latch_y (f : Fatal) (s : State) : (latch f s).y = s.y := rfl
@[simp] theorem latch_sp (f : Fatal) (s : State) : (latch f s).sp = s.sp := rfl
@[simp] theorem latch_pc (f : Fatal) (s : State) : (latch f s).pc = s.pc := rfl
@[simp] theorem latch_n (f : Fatal) (s : State) : (latch f s).n = s.n := rfl
@[simp] theorem latch_v (f : Fatal) (s : State) : (latch f s).v = s.v := rfl
@[simp] theorem latch_b (f : Fatal) (s : State) : (latch f s).b = s.b := rfl
@[simp] theorem latch_d (f : Fatal) (s : State) : (latch f s).d = s.d := rfl
@[simp] theorem latch_i (f : Fatal) (s : State) : (latch f s).i = s.i := rfl
@[simp] theorem latch_z (f : Fatal) (s : State) : (latch f s).z = s.z := rfl
@[simp] theorem latch_c (f : Fatal) (s : State) : (latch f s).c = s.c := rfl
@[simp] theorem latch_cyc (f : Fatal) (s : State) : (latch f s).cyc = s.cyc := rfl
@[simp] theorem latch_nmiReq (f : Fatal) (s : State) : (latch f s).nmiReq = s.nmiReq := rfl
@[simp] theorem latch_fatal (f : Fatal) (s : State) : (latch f s).fatal = (match s.fatal with | none => some f | some g => some g) := rfl
@[simp] theorem latch_ram (f : Fatal) (s : State) : (latch f s).ram = s.ram := rfl
@[simp] theorem latch_cart (f : Fatal) (s : State) : (latch f s).cart = s.cart := rfl
@[simp] theorem latch_ppuHook (f : Fatal) (s : State) : (latch f s).ppuHook = s.ppuHook := rfl
@[simp] theorem latch_ioHook (f : Fatal) (s : State) : (latch f s).ioHook = s.ioHook := rfl
@[simp] theorem latch_ppu (f : Fatal) (s : State) : (latch f s).ppu = s.ppu := rfl
@[simp] theorem latch_apu (f : Fatal) (s : State) : (latch f s).apu = s.apu := rfl
@[simp] theorem latch_ctl (f : Fatal) (s : State) : (latch f s).ctl = s.ctl := rfl
@[simp] theorem latch_dsk (f : Fatal) (s : State) : (latch f s).dsk = s.dsk := rfl
@[simp] theorem latch_cfg (f : Fatal) (s : State) : (latch f s).cfg = s.cfg := rfl
@[simp] theorem latch_buttons0 (f : Fatal) (s : State) : (latch f s).buttons0 = s.buttons0 := rfl
@[simp] theorem latch_buttons1 (f : Fatal) (s : State) : (latch f s).buttons1 = s.buttons1 := rfl
@[simp] theorem latch_pending (f : Fatal) (s : State) : (latch f s).pending = s.pending := rfl
@[simp] theorem latch_out (f : Fatal) (s : State) : (latch f s).out = s.out := rfl
@[simp] theorem latch_freeReads (f : Fatal) (s : State) : (latch f s).freeReads = s.freeReads := rfl

-- Result
@[simp] theorem andThen_ok {α β : Type} (w : α) (s : State) (k : α → State → Result β) :
    (Result.ok w s).andThen k = k w s := rfl
@[simp] theorem andThen_stop {α β : Type} (f : Fatal) (s : State) (k : α → State → Result β) :
    (Result.stop f s : Result α).andThen k = .stop f s := rfl
@[simp] theorem outcome_ok (u : Unit) (s : State) : (Result.ok u s).outcome = .next s := rfl
@[simp] theorem outcome_stop (f : Fatal) (s : State) :
    (Result.stop f s : Result Unit).outcome = .fault (.fatal f (latch f s)) := rfl

/-- A bind that completed: its first part completed, and its second part did on what the first left. -/
theorem andThen_eq_ok {α β : Type} {r : Result α} {k : α → State → Result β} {v : β} {t : State} :
    r.andThen k = .ok v t ↔ ∃ w u, r = .ok w u ∧ k w u = .ok v t := by
  cases r with
  | ok w s => exact ⟨fun h => ⟨w, s, rfl, h⟩, by rintro ⟨_, _, h, h'⟩; cases h; exact h'⟩
  | stop f s => simp

/-- A bind that stopped: in its first part, or in its second. -/
theorem andThen_eq_stop {α β : Type} {r : Result α} {k : α → State → Result β} {f : Fatal} {t : State} :
    r.andThen k = .stop f t ↔ r = .stop f t ∨ ∃ w u, r = .ok w u ∧ k w u = .stop f t := by
  cases r with
  | ok w s => exact ⟨fun h => .inr ⟨w, s, rfl, h⟩, by rintro (h | ⟨_, _, h, h'⟩) <;> cases h; exact h'⟩
  | stop f s => simp

theorem outcome_eq_next {r : Result Unit} {t : State} : r.outcome = .next t ↔ r = .ok () t := by
  cases r <;> simp

theorem outcome_eq_fault {r : Result Unit} {e : Fault} :
    r.outcome = .fault e ↔ ∃ f t, r = .stop f t ∧ e = .fatal f (latch f t) := by
  cases r with
  | ok w s => simp
  | stop f s =>
    constructor
    · intro h; cases h; exact ⟨f, s, rfl, rfl⟩
    · rintro ⟨_, _, h, rfl⟩; cases h; rfl

theorem outcome_ne_refused {r : Result Unit} {e : Refusal} : r.outcome ≠ .refused e := by
  cases r <;> simp

end Sys2Proof.Machine
end

