-- ==== Sys2Proof/Laws/Bus.lean ====
section
/-! SUPPORT. Everything a bus access can do: where an address goes, when an access raises a condition, what a read
may change (`ReadEffect`) and what a write may change (`WriteEffect`). -/

namespace Sys2Proof.Machine

-- Regions

theorem region_ram {a : Word} (h : a.toNat ≤ 0x1FFF) : region a = .ram (a.toNat % 0x800) := by
  simp [region, h]

theorem region_ppu {a : Word} (h : 0x2000 ≤ a.toNat) (h' : a.toNat ≤ 0x3FFF) : region a = .ppu (ppuReg a) := by
  have h1 : ¬ a.toNat ≤ 0x1FFF := by omega
  simp [region, h1, h']

theorem region_bulkCopy : region 0x4014 = .bulkCopy := by decide

theorem region_io {a : Word} (h : 0x4000 ≤ a.toNat) (h' : a.toNat ≤ 0x41FF) (hne : a.toNat ≠ 0x4014) :
    region a = .io := by
  have h1 : ¬ a.toNat ≤ 0x1FFF := by omega
  have h2 : ¬ a.toNat ≤ 0x3FFF := by omega
  simp [region, h1, h2, hne, h']

theorem region_cart {a : Word} (h : 0x4200 ≤ a.toNat) : region a = .cart a.toNat := by
  have h1 : ¬ a.toNat ≤ 0x1FFF := by omega
  have h2 : ¬ a.toNat ≤ 0x3FFF := by omega
  have h3 : ¬ a.toNat = 0x4014 := by omega
  have h4 : ¬ a.toNat ≤ 0x41FF := by omega
  simp [region, h1, h2, h3, h4]

/-- A RAM region's cell is one of the 2048. -/
theorem region_ram_lt {a : Word} {k : Nat} (h : region a = .ram k) : k < 0x800 := by
  unfold region at h
  split at h
  · cases h; omega
  · repeat (split at h; · simp at h)
    simp at h

/-- A cartridge region's cell is an address of `$4200..$FFFF`. -/
theorem region_cart_bounds {a : Word} {k : Nat} (h : region a = .cart k) : 0x4200 ≤ k ∧ k < 0x10000 := by
  unfold region at h
  repeat (split at h; · simp at h)
  cases h
  have := a.isLt
  omega

-- What a read may change

/-- What a bus read may change: the pixel processor's status flag, latch, VRAM address and read buffer; the
controllers' shift registers; the disk's two request flags; the count of free bytes. Nothing else. -/
def ReadEffect (s t : State) : Prop :=
  t = { s with
    ppu := { s.ppu with
      status := t.ppu.status, wlatch := t.ppu.wlatch, vaddr := t.ppu.vaddr, rbuf := t.ppu.rbuf },
    ctl := { s.ctl with shift0 := t.ctl.shift0, shift1 := t.ctl.shift1 },
    dsk := { s.dsk with xferFlag := t.dsk.xferFlag, timerFlag := t.dsk.timerFlag },
    freeReads := t.freeReads }

theorem ReadEffect.refl (s : State) : ReadEffect s s := rfl

theorem freeRead_effect {s t : State} {w : Byte} (h : freeRead s = .ok w t) : ReadEffect s t := by
  cases h; rfl

theorem ppuRegRead_effect {r : PpuReg} {s t : State} {w : Byte} (h : ppuRegRead r s = .ok w t) :
    ReadEffect s t := by
  cases r <;> simp only [ppuRegRead] at h
  case vramData =>
    split at h
    · cases h
      simp only [dataPortWasRead]
      split <;> rfl
    · cases h
  all_goals first
    | exact freeRead_effect h
    | (cases h; rfl)

theorem ioRead_effect {r : IoReg} {s t : State} {w : Byte} (h : ioRead r s = .ok w t) : ReadEffect s t := by
  cases r <;> simp only [ioRead, controllerRead0, controllerRead1] at h
  case disk q =>
    split at h
    · cases q <;> simp only [diskRegRead] at h <;> first
        | exact freeRead_effect h
        | (cases h; rfl)
    · exact freeRead_effect h
  all_goals first
    | exact freeRead_effect h
    | (cases h; rfl)
    | (split at h <;> cases h <;> rfl)

/-- Everything a completed bus read can change. -/
theorem busRead_effect {a : Word} {s t : State} {w : Byte} (h : busRead a s = .ok w t) : ReadEffect s t := by
  unfold busRead at h
  split at h
  · cases h; rfl
  · split at h
    · exact ppuRegRead_effect h
    · cases h
  · unfold ioWindowRead at h
    split at h
    · exact ioRead_effect h
    · cases h
  · unfold ioWindowRead at h
    split at h
    · exact ioRead_effect h
    · cases h
  · cases h; rfl

/-- A read of RAM or cartridge space changes nothing and gives the stored byte (R43, R47). -/
theorem busRead_stored {a : Word} {s : State} {w : Byte} (h : storedByte s a = some w) : busRead a s = .ok w s := by
  unfold storedByte at h
  unfold busRead
  split at h <;> simp_all

theorem ReadEffect.storedByte {s t : State} (h : ReadEffect s t) (a : Word) : storedByte t a = storedByte s a := by
  rw [h]; rfl

-- When a read raises a condition

theorem ppuRegRead_ok {r : PpuReg} {s : State} (h : r = .vramData → vaddrLegal s.ppu = true) :
    ∃ w t, ppuRegRead r s = .ok w t := by
  cases r <;> simp only [ppuRegRead, freeRead] <;> first
    | exact ⟨_, _, rfl⟩
    | simp [h rfl]

theorem ioRead_ok (r : IoReg) (s : State) : ∃ w t, ioRead r s = .ok w t := by
  cases r <;> simp only [ioRead, controllerRead0, controllerRead1, freeRead] <;> try exact ⟨_, _, rfl⟩
  · split <;> exact ⟨_, _, rfl⟩
  · split <;> exact ⟨_, _, rfl⟩
  · rename_i q
    split
    · cases q <;> exact ⟨_, _, rfl⟩
    · exact ⟨_, _, rfl⟩

/-- A read completes where `readOk` says so. -/
theorem busRead_ok {a : Word} {s : State} (h : readOk s a = true) : ∃ w t, busRead a s = .ok w t := by
  cases ha : region a with
  | ram k => exact ⟨readCell s.ram k, s, by simp only [busRead, ha]⟩
  | cart k => exact ⟨readCell s.cart k, s, by simp only [busRead, ha]⟩
  | ppu r =>
    simp only [readOk, portOk, ha, Bool.and_eq_true, Bool.or_eq_true, bne_iff_ne, ne_eq] at h
    simp only [busRead, ha, h.1, if_true]
    exact ppuRegRead_ok fun hr => h.2.resolve_left fun hn => hn hr
  | bulkCopy =>
    simp only [readOk, ha] at h
    simp only [busRead, ioWindowRead, ha, h, if_true]
    exact ioRead_ok _ _
  | io =>
    simp only [readOk, ha] at h
    simp only [busRead, ioWindowRead, ha, h, if_true]
    exact ioRead_ok _ _

/-- Elsewhere it raises `accessFault` and has changed nothing. -/
theorem busRead_stop {a : Word} {s : State} (h : readOk s a = false) :
    busRead a s = .stop (accessFault s a) s := by
  cases ha : region a with
  | ram k => simp [readOk, ha] at h
  | cart k => simp [readOk, ha] at h
  | ppu r =>
    simp only [busRead, accessFault, ha]
    cases hh : s.ppuHook with
    | false => simp
    | true =>
      simp only [readOk, portOk, ha, hh, Bool.true_and, Bool.or_eq_false_iff, bne_eq_false_iff_eq] at h
      obtain ⟨rfl, hv⟩ := h
      simp [ppuRegRead, hv]
  | bulkCopy =>
    simp only [readOk, ha] at h
    simp [busRead, ioWindowRead, accessFault, ha, h]
  | io =>
    simp only [readOk, ha] at h
    simp [busRead, ioWindowRead, accessFault, ha, h]

theorem busRead_ok_iff {a : Word} {s : State} : (∃ w t, busRead a s = .ok w t) ↔ readOk s a = true := by
  constructor
  · rintro ⟨w, t, h⟩
    cases hr : readOk s a with
    | true => rfl
    | false => rw [busRead_stop hr] at h; cases h
  · exact busRead_ok

-- What a write may change

/-- What a bus write may change: memory and the peripherals' own state. No register, flag, counter, request, hook or
input of the machine changes. -/
def WriteEffect (s t : State) : Prop :=
  t = { s with ram := t.ram, cart := t.cart, ppu := t.ppu, apu := t.apu, ctl := t.ctl, dsk := t.dsk,
               freeReads := t.freeReads }

theorem WriteEffect.refl (s : State) : WriteEffect s s := rfl

theorem WriteEffect.trans {s t u : State} (h : WriteEffect s t) (h' : WriteEffect t u) : WriteEffect s u := by
  unfold WriteEffect at *; rw [h', h]

theorem ReadEffect.writeEffect {s t : State} (h : ReadEffect s t) : WriteEffect s t := by
  rw [h]; rfl

theorem ppuRegWrite_effect {r : PpuReg} {w : Byte} {s t : State} (h : ppuRegWrite r w s = .ok () t) :
    t = { s with ppu := t.ppu } := by
  unfold ppuRegWrite at h
  simp only at h
  split at h
  · cases h
  · cases h; rfl

theorem ioWrite_effect (r : IoReg) (w : Byte) (s : State) :
    ioWrite r w s = { s with ppu := (ioWrite r w s).ppu, apu := (ioWrite r w s).apu, ctl := (ioWrite r w s).ctl,
                             dsk := (ioWrite r w s).dsk } := by
  cases r <;> try rfl
  · simp only [ioWrite, strobeWrite]; split <;> rfl
  · rename_i q
    simp only [ioWrite]
    split
    · cases q <;> rfl
    · rfl

/-- The bulk copy stores nothing outside sprite memory; its reads have their own effects (R48). -/
theorem copyBytes_effect {page : Byte} {k i : Nat} {s t : State} (h : copyBytes page k i s = .ok () t) :
    WriteEffect s t ∧ t.ram = s.ram ∧ t.cart = s.cart := by
  induction k generalizing i s with
  | zero => cases h; exact ⟨rfl, rfl, rfl⟩
  | succ k ih =>
    simp only [copyBytes, andThen_eq_ok] at h
    obtain ⟨w, u, hr, hc⟩ := h
    have hu := busRead_effect hr
    have hw : WriteEffect s { u with ppu := { u.ppu with oam := writeCell u.ppu.oam i w } } := by
      rw [hu]; rfl
    obtain ⟨h1, h2, h3⟩ := ih hc
    refine ⟨hw.trans h1, h2.trans ?_, h3.trans ?_⟩ <;> (rw [hu])

/-- Everything a completed bus write can change. -/
theorem busWrite_effect {a : Word} {w : Byte} {s t : State} (h : busWrite a w s = .ok () t) : WriteEffect s t := by
  unfold busWrite at h
  split at h
  · cases h; rfl
  · split at h
    · rw [ppuRegWrite_effect h]; rfl
    · cases h
  · exact (copyBytes_effect h).1
  · split at h
    · cases h; rw [ioWrite_effect]; rfl
    · cases h
  · cases h; rfl

/-- A write to RAM or cartridge space stores the byte in that cell and does nothing else (R43, R47). -/
theorem busWrite_ram {a : Word} {k : Nat} (w : Byte) (s : State) (h : region a = .ram k) :
    busWrite a w s = .ok () { s with ram := writeCell s.ram k w } := by
  simp [busWrite, h]

theorem busWrite_cart {a : Word} {k : Nat} (w : Byte) (s : State) (h : region a = .cart k) :
    busWrite a w s = .ok () { s with cart := writeCell s.cart k w } := by
  simp [busWrite, h]

/-- A write to a register window leaves RAM and cartridge space alone. -/
theorem busWrite_window {a : Word} {w : Byte} {s t : State} (h : busWrite a w s = .ok () t)
    (hs : storedByte s a = none) : t.ram = s.ram ∧ t.cart = s.cart := by
  unfold storedByte at hs
  unfold busWrite at h
  split at hs
  · cases hs
  · cases hs
  all_goals (rename_i hr; simp only [hr] at h)
  · split at h
    · rw [ppuRegWrite_effect h]; exact ⟨rfl, rfl⟩
    · cases h
  · exact (copyBytes_effect h).2
  · split at h
    · cases h; rw [ioWrite_effect]; exact ⟨rfl, rfl⟩
    · cases h

/-- The stored bytes after a write: only the cell written to. -/
theorem busWrite_storedByte {a : Word} {w : Byte} {s t : State} (hram : memoryWf 0 0x800 s.ram = true)
    (hcart : memoryWf 0x4200 0x10000 s.cart = true) (h : busWrite a w s = .ok () t) (b : Word) :
    storedByte t b = if region b = region a ∧ (storedByte s b).isSome then some w else storedByte s b := by
  cases ha : region a with
  | ram k =>
    rw [busWrite_ram w s ha] at h; cases h
    cases hb : region b <;> simp [storedByte, hb, readCell_writeCell hram]
    split <;> rfl
  | cart k =>
    rw [busWrite_cart w s ha] at h; cases h
    cases hb : region b <;> simp [storedByte, hb, readCell_writeCell hcart]
    split <;> rfl
  | ppu r =>
    obtain ⟨h1, h2⟩ := busWrite_window h (by simp [storedByte, ha])
    cases hb : region b <;> simp [storedByte, hb, h1, h2]
  | bulkCopy =>
    obtain ⟨h1, h2⟩ := busWrite_window h (by simp [storedByte, ha])
    cases hb : region b <;> simp [storedByte, hb, h1, h2]
  | io =>
    obtain ⟨h1, h2⟩ := busWrite_window h (by simp [storedByte, ha])
    cases hb : region b <;> simp [storedByte, hb, h1, h2]

-- When a write raises a condition

theorem ppuRegWrite_ok {r : PpuReg} {w : Byte} {s : State} (h : r = .vramData → vaddrLegal s.ppu = true) :
    ∃ t, ppuRegWrite r w s = .ok () t := by
  unfold ppuRegWrite
  simp only
  split
  · rename_i hc
    simp only [Bool.and_eq_true, decide_eq_true_eq, Bool.not_eq_true'] at hc
    have := h hc.1
    simp only [vaddrLegal] at this hc
    rw [this] at hc
    simp at hc
  · exact ⟨_, rfl⟩

/-- Whether a result is a completed one. -/
def Result.isOk {α : Type} : Result α → Bool
  | .ok _ _ => true
  | .stop _ _ => false

theorem isOk_iff {α : Type} {r : Result α} : r.isOk = true ↔ ∃ w t, r = .ok w t := by
  cases r <;> simp [Result.isOk]

theorem not_isOk_iff {α : Type} {r : Result α} : r.isOk = false ↔ ∃ f t, r = .stop f t := by
  cases r <;> simp [Result.isOk]

theorem busRead_isOk (a : Word) (s : State) : (busRead a s).isOk = readOk s a := by
  cases h : readOk s a with
  | true => exact isOk_iff.2 (busRead_ok h)
  | false => rw [busRead_stop h]; rfl

theorem copyAddr_toNat {page : Byte} {i : Nat} (hi : i < 256) :
    (BitVec.ofNat 16 (page.toNat * 256 + i)).toNat = page.toNat * 256 + i := by
  have := page.isLt
  rw [BitVec.toNat_ofNat]; omega

/-- One step of the copy. -/
theorem copyBytes_succ {page : Byte} {k i : Nat} {s u : State} {w : Byte}
    (h : busRead (BitVec.ofNat 16 (page.toNat * 256 + i)) s = .ok w u) :
    copyBytes page (k + 1) i s
      = copyBytes page k (i + 1) { u with ppu := { u.ppu with oam := writeCell u.ppu.oam i w } } := by
  simp only [copyBytes, h, andThen_ok]

theorem copyBytes_stop {page : Byte} {k i : Nat} {s t : State} {f : Fatal}
    (h : busRead (BitVec.ofNat 16 (page.toNat * 256 + i)) s = .stop f t) :
    copyBytes page (k + 1) i s = .stop f t := by
  simp only [copyBytes, h, andThen_stop]

/-- The copy from a page whose reads raise nothing, whatever state they leave that has the same hooks. -/
theorem copyBytes_isOk_of_hooks {page : Byte} {s : State}
    (hp : ∀ (t : State) (i : Nat), i < 256 → t.ppuHook = s.ppuHook → t.ioHook = s.ioHook →
      readOk t (BitVec.ofNat 16 (page.toNat * 256 + i)) = true) :
    ∀ (k i : Nat) (t : State), k + i = 256 → t.ppuHook = s.ppuHook → t.ioHook = s.ioHook →
      (copyBytes page k i t).isOk = true := by
  intro k
  induction k with
  | zero => intros; rfl
  | succ k ih =>
    intro i t hk h1 h2
    obtain ⟨w, u, hu⟩ := busRead_ok (hp t i (by omega) h1 h2)
    rw [copyBytes_succ hu]
    have he := busRead_effect hu
    exact ih _ _ (by omega) (by rw [he]; exact h1) (by rw [he]; exact h2)

theorem ppuReg_copy {page : Byte} {i : Nat} (hi : i < 256) :
    (ppuReg (BitVec.ofNat 16 (page.toNat * 256 + i)) = .vramData) ↔ i % 8 = 7 := by
  have h8 : (page.toNat * 256 + i) % 8 = i % 8 := by omega
  have hlt : i % 8 < 8 := Nat.mod_lt _ (by omega)
  simp only [ppuReg, copyAddr_toNat hi, h8]
  generalize i % 8 = j at *
  match j, hlt with
  | 0, _ | 1, _ | 2, _ | 3, _ | 4, _ | 5, _ | 6, _ | 7, _ => simp

theorem dataPortWasRead_eq (p : Ppu) :
    dataPortWasRead p = { p with
      rbuf := if 0x3F00 ≤ p.vaddr.toNat then p.rbuf else vramRead p p.vaddr.toNat,
      vaddr := p.vaddr + BitVec.ofNat 15 (vramStep p) } := by
  unfold dataPortWasRead bumpVaddr
  split <;> rfl

/-- A register read leaves the control register, and moves the VRAM address only at the data port. -/
theorem ppuRegRead_vaddr {r : PpuReg} {s t : State} {w : Byte} (h : ppuRegRead r s = .ok w t) :
    t.ppu.vaddr = (if r = .vramData then s.ppu.vaddr + BitVec.ofNat 15 (vramStep s.ppu) else s.ppu.vaddr)
      ∧ vramStep t.ppu = vramStep s.ppu ∧ t.ppuHook = s.ppuHook := by
  cases r <;> simp only [ppuRegRead, freeRead] at h
  case vramData =>
    split at h
    · cases h
      exact ⟨by rw [dataPortWasRead_eq]; rfl, by rw [dataPortWasRead_eq]; rfl, rfl⟩
    · cases h
  all_goals (cases h; exact ⟨rfl, rfl, rfl⟩)

theorem vramStep_pos (p : Ppu) : 1 ≤ vramStep p ∧ vramStep p ≤ 32 := by
  unfold vramStep; split <;> omega

/-- The copy from a page of the pixel window completes exactly if the VRAM address is in its window at each of the
data-port reads still to come. -/
theorem copyBytes_ppu {page : Byte} (h20 : 0x20 ≤ page.toNat) (h40 : page.toNat < 0x40) :
    ∀ (k i : Nat) (s : State), k + i = 256 → s.ppuHook = true →
      ((copyBytes page k i s).isOk = true ↔
        (i = 256 ∨ s.ppu.vaddr.toNat + (31 - i / 8) * vramStep s.ppu < 0x4000)) := by
  intro k
  induction k with
  | zero => intro i s hk _; simp only [copyBytes, Result.isOk, true_iff]; omega
  | succ k ih =>
    intro i s hk hh
    have hi : i < 256 := by omega
    have ha : region (BitVec.ofNat 16 (page.toNat * 256 + i))
        = .ppu (ppuReg (BitVec.ofNat 16 (page.toNat * 256 + i))) :=
      region_ppu (by rw [copyAddr_toNat hi]; omega) (by rw [copyAddr_toNat hi]; omega)
    have hok : readOk s (BitVec.ofNat 16 (page.toNat * 256 + i)) = (decide (i % 8 ≠ 7) || vaddrLegal s.ppu) := by
      simp only [readOk, ha, portOk, hh, Bool.true_and]
      by_cases h7 : i % 8 = 7
      · simp [(ppuReg_copy hi).2 h7, h7]
      · have := mt (ppuReg_copy (page := page) hi).1 h7
        simp [this, h7]
    have hstep := vramStep_pos s.ppu
    have hi' : i ≠ 256 := by omega
    cases hr : readOk s (BitVec.ofNat 16 (page.toNat * 256 + i)) with
    | false =>
      have hb := busRead_stop hr
      rw [hok] at hr
      simp only [Bool.or_eq_false_iff, decide_eq_false_iff_not, ne_eq, Classical.not_not, vaddrLegal] at hr
      simp only [copyBytes, hb, andThen_stop, Result.isOk, hi', false_or]
      have : 0x4000 ≤ s.ppu.vaddr.toNat := by have := hr.2; omega
      constructor
      · intro h; cases h
      · intro h; omega
    | true =>
      obtain ⟨w, u, hu⟩ := busRead_ok hr
      have hu' : ppuRegRead (ppuReg (BitVec.ofNat 16 (page.toNat * 256 + i))) s = .ok w u := by
        simpa [busRead, ha, hh] using hu
      obtain ⟨hv, hst, hhk⟩ := ppuRegRead_vaddr hu'
      obtain ⟨u', heq, hv', hst', hh'⟩ : ∃ u', copyBytes page (k + 1) i s = copyBytes page k (i + 1) u'
          ∧ u'.ppu.vaddr = u.ppu.vaddr ∧ vramStep u'.ppu = vramStep s.ppu ∧ u'.ppuHook = true :=
        ⟨_, copyBytes_succ hu, rfl, hst, hhk.trans hh⟩
      rw [heq, ih (i + 1) u' (by omega) hh', hst', hv', hv]
      by_cases h7 : i % 8 = 7
      · rw [if_pos ((ppuReg_copy hi).2 h7)]
        rw [hok] at hr
        have hl : s.ppu.vaddr.toNat < 0x4000 := by simpa [h7, vaddrLegal] using hr
        have hadd : (s.ppu.vaddr + BitVec.ofNat 15 (vramStep s.ppu)).toNat
            = s.ppu.vaddr.toNat + vramStep s.ppu := by
          rw [BitVec.toNat_add, BitVec.toNat_ofNat]; omega
        rw [hadd]
        by_cases hlast : i = 255
        · subst hlast; simp [hl]
        · have hd : 31 - i / 8 = (31 - (i + 1) / 8) + 1 := by omega
          rw [hd, Nat.add_mul]
          omega
      · have hne : ¬ (ppuReg (BitVec.ofNat 16 (page.toNat * 256 + i)) = .vramData) :=
          mt (ppuReg_copy hi).1 h7
        rw [if_neg hne]
        have hd : (i + 1) / 8 = i / 8 := by omega
        rw [hd]
        omega

theorem readOk_copy_io {page : Byte} (h1 : 0x40 ≤ page.toNat) (h2 : page.toNat < 0x42) {i : Nat} (hi : i < 256)
    (t : State) : readOk t (BitVec.ofNat 16 (page.toNat * 256 + i)) = t.ioHook := by
  have hr : region (BitVec.ofNat 16 (page.toNat * 256 + i)) = .bulkCopy ∨
      region (BitVec.ofNat 16 (page.toNat * 256 + i)) = .io := by
    by_cases h4 : page.toNat * 256 + i = 0x4014
    · left; rw [h4]; exact region_bulkCopy
    · right
      exact region_io (by rw [copyAddr_toNat hi]; omega) (by rw [copyAddr_toNat hi]; omega)
        (by rw [copyAddr_toNat hi]; exact h4)
  rcases hr with hr | hr <;> simp only [readOk, hr]

/-- The bulk copy completes exactly where `copyOk` says so. -/
theorem bulkCopy_isOk (page : Byte) (s : State) : (bulkCopy page s).isOk = copyOk s page := by
  unfold bulkCopy copyOk
  have hlt := page.isLt
  by_cases h1 : page.toNat < 0x20
  · rw [if_pos h1]
    refine copyBytes_isOk_of_hooks (s := s) (fun t i hi _ _ => ?_) 256 0 s rfl rfl rfl
    have hr := region_ram (a := BitVec.ofNat 16 (page.toNat * 256 + i)) (by rw [copyAddr_toNat hi]; omega)
    simp only [readOk, hr]
  · rw [if_neg h1]
    by_cases h2 : page.toNat < 0x40
    · rw [if_pos h2]
      cases hh : s.ppuHook with
      | false =>
        have hr := region_ppu (a := BitVec.ofNat 16 (page.toNat * 256 + 0))
          (by rw [copyAddr_toNat (by omega)]; omega) (by rw [copyAddr_toNat (by omega)]; omega)
        have ha : readOk s (BitVec.ofNat 16 (page.toNat * 256 + 0)) = false := by
          simp only [readOk, hr, portOk, hh, Bool.false_and]
        rw [copyBytes_stop (k := 255) (busRead_stop ha), Bool.false_and]
        rfl
      | true =>
        have := copyBytes_ppu (page := page) (by omega) h2 256 0 s rfl hh
        rw [Bool.true_and, Bool.eq_iff_iff, this]
        simp
    · rw [if_neg h2]
      by_cases h3 : page.toNat < 0x42
      · rw [if_pos h3]
        cases hh : s.ioHook with
        | false =>
          have ha := readOk_copy_io (page := page) (by omega) h3 (i := 0) (by omega) s
          rw [hh] at ha
          rw [copyBytes_stop (k := 255) (busRead_stop ha)]
          rfl
        | true =>
          exact copyBytes_isOk_of_hooks (s := s)
            (fun t i hi _ h => by rw [readOk_copy_io (by omega) h3 hi t, h, hh]) 256 0 s rfl rfl rfl
      · rw [if_neg h3]
        refine copyBytes_isOk_of_hooks (s := s) (fun t i hi _ _ => ?_) 256 0 s rfl rfl rfl
        have hr := region_cart (a := BitVec.ofNat 16 (page.toNat * 256 + i)) (by rw [copyAddr_toNat hi]; omega)
        simp only [readOk, hr]

theorem ppuRegWrite_isOk (r : PpuReg) (w : Byte) (s : State) :
    (ppuRegWrite r w s).isOk = (r != .vramData || vaddrLegal s.ppu) := by
  cases r <;> try rfl
  simp only [ppuRegWrite, vaddrLegal]
  by_cases h : s.ppu.vaddr.toNat < 0x4000 <;> simp [h, Result.isOk]

/-- A write completes exactly where `writeOk` says so. -/
theorem busWrite_isOk (a : Word) (w : Byte) (s : State) : (busWrite a w s).isOk = writeOk s a w := by
  cases ha : region a with
  | ram k => simp [busWrite, writeOk, ha, Result.isOk]
  | cart k => simp [busWrite, writeOk, ha, Result.isOk]
  | ppu r =>
    simp only [busWrite, writeOk, portOk, ha]
    cases hh : s.ppuHook with
    | false => simp [Result.isOk]
    | true => simp [ppuRegWrite_isOk]
  | bulkCopy => simp only [busWrite, writeOk, ha, bulkCopy_isOk]
  | io =>
    simp only [busWrite, writeOk, ha]
    cases hh : s.ioHook <;> simp [Result.isOk]

theorem busWrite_ok {a : Word} {w : Byte} {s : State} (h : writeOk s a w = true) :
    ∃ t, busWrite a w s = .ok () t := by
  rw [← busWrite_isOk] at h
  obtain ⟨_, t, ht⟩ := isOk_iff.1 h
  exact ⟨t, ht⟩

theorem busWrite_stop {a : Word} {w : Byte} {s : State} (h : writeOk s a w = false) :
    ∃ f t, busWrite a w s = .stop f t := by
  rw [← busWrite_isOk] at h
  exact not_isOk_iff.1 h

end Sys2Proof.Machine
end

