-- ==== Sys2Proof/Laws/Classes.lean ====
section
/-! SUPPORT. Everything an instruction class can do (Machine/Operands.lean), and how an operand list whose entries run
one class follows its rule. -/

namespace Sys2Proof.Machine

open Sys2Proof.Forms

theorem loadOperand_effect {o : Operand} {s t : State} {w : Byte} (h : loadOperand o s = .ok w t) :
    ReadEffect s t := by
  cases o with
  | acc => cases h; rfl
  | imm v => cases h; rfl
  | mem m => exact busRead_effect h

theorem loadOperand_ok {o : Operand} {s : State} (h : operandOk o s = true) : ∃ w t, loadOperand o s = .ok w t := by
  cases o with
  | acc => exact ⟨_, _, rfl⟩
  | imm v => exact ⟨_, _, rfl⟩
  | mem m => exact busRead_ok h

theorem loadOperand_stop {o : Operand} {s : State} (h : operandOk o s = false) :
    ∃ c, loadOperand o s = .stop c s := by
  cases o with
  | acc => cases h
  | imm v => cases h
  | mem m => exact ⟨_, busRead_stop h⟩

/-- A read instruction after its operand has been read. -/
theorem readClass_of_ok {o : Operand} {base : Nat} {g : Byte → State → State} {s t : State} {w : Byte}
    (h : loadOperand o s = .ok w t) : readClass o base g s = .ok () (spend (base + readPenalty o s) (g w t)) := by
  simp [readClass, h]

theorem readClass_of_stop {o : Operand} {base : Nat} {g : Byte → State → State} {s t : State} {c : Fatal}
    (h : loadOperand o s = .stop c t) : readClass o base g s = .stop c t := by
  simp [readClass, h]

theorem storeClass_of_ok {m : MemOperand} {base : Nat} {w : Byte} {s t : State}
    (h : busWrite (resolve m s).addr w s = .ok () t) : storeClass m base w s = .ok () (spend base t) := by
  simp [storeClass, h]

theorem storeClass_of_stop {m : MemOperand} {base : Nat} {w : Byte} {s t : State} {c : Fatal}
    (h : busWrite (resolve m s).addr w s = .stop c t) : storeClass m base w s = .stop c t := by
  simp [storeClass, h]

theorem rmwClass_of_ok {m : MemOperand} {base : Nat} {f : Byte → Bool → Shifted} {g : Shifted → State → State}
    {s t u : State} {w : Byte} (hr : busRead (resolve m s).addr s = .ok w t)
    (hw : busWrite (resolve m s).addr (f w s.c).r t = .ok () u) :
    rmwClass m base f g s = .ok () (spend base (g (f w s.c) u)) := by
  have hc : t.c = s.c := by rw [busRead_effect hr]
  simp [rmwClass, hr, hc, hw]

/-- A read-modify-write instruction whose access raises a condition stops. -/
theorem rmwClass_of_not_ok {m : MemOperand} {base : Nat} {f : Byte → Bool → Shifted} {g : Shifted → State → State}
    {s : State} (h : rmwOk m f s = false) : ∃ c t, rmwClass m base f g s = .stop c t := by
  unfold rmwOk at h
  cases hr : readOk s (resolve m s).addr with
  | false => exact ⟨_, _, by simp only [rmwClass, busRead_stop hr, andThen_stop]; rfl⟩
  | true =>
    obtain ⟨w, t, ht⟩ := busRead_ok hr
    have hc : t.c = s.c := by rw [busRead_effect ht]
    simp only [hr, ht, Bool.true_and] at h
    obtain ⟨c, u, hu⟩ := busWrite_stop h
    exact ⟨c, u, by simp [rmwClass, ht, hc, hu]⟩

theorem rmwOk_cases {m : MemOperand} {f : Byte → Bool → Shifted} {s : State} (h : rmwOk m f s = true) :
    ∃ w t u, busRead (resolve m s).addr s = .ok w t ∧ busWrite (resolve m s).addr (f w s.c).r t = .ok () u := by
  unfold rmwOk at h
  simp only [Bool.and_eq_true] at h
  obtain ⟨w, t, ht⟩ := busRead_ok h.1
  rw [ht] at h
  obtain ⟨u, hu⟩ := busWrite_ok h.2
  exact ⟨w, t, u, ht, hu⟩

/-- A read operand pays the penalty exactly when it crosses a page (R103). -/
theorem readPenalty_eq (o : Operand) (s : State) : readPenalty o s = if crossesPage o s then 1 else 0 := by
  cases o with
  | acc => rfl
  | imm w => rfl
  | mem m => cases h : (resolve m s).crossed <;> simp [readPenalty, crossesPage, h]

/-- An operand list whose entries run `readClass` follows the read rule. -/
theorem readRule_of {forms : Byte → Word → List ReadForm} {g : Byte → State → State}
    (h : ∀ (b : Byte) (a : Word), ∀ f ∈ forms b a, (encode f.instr).head? = some f.op ∧
      (∀ s, exec f.instr s = (readClass f.operand f.cycles g s).outcome) ∧
      (f.penalty = false → ∀ s, readPenalty f.operand s = 0)) : ReadRule forms g := by
  intro b a f hf
  obtain ⟨h1, h2, h3⟩ := h b a f hf
  refine ⟨h1, fun s => ⟨fun v hv => by rw [hv]; rfl, fun m hm => by rw [hm]; rfl, fun ho => ?_, fun ho => ?_⟩⟩
  · obtain ⟨w, t, ht⟩ := loadOperand_ok ho
    refine ⟨w, t, ht, ?_⟩
    rw [h2, readClass_of_ok ht, outcome_ok]
    cases hp : f.penalty with
    | true => simp [readCost, hp, plusCycles, spend, readPenalty_eq]
    | false => simp [readCost, hp, plusCycles, spend, h3 hp s]
  · obtain ⟨c, hc⟩ := loadOperand_stop ho
    exact ⟨c, hc, by rw [h2, readClass_of_stop hc, outcome_stop]⟩

/-- An operand list whose entries run `storeClass` follows the store rule. -/
theorem storeRule_of {forms : Byte → Word → List MemForm} {v : State → Byte}
    (h : ∀ (b : Byte) (a : Word), ∀ f ∈ forms b a, (encode f.instr).head? = some f.op ∧
      ∀ s, exec f.instr s = (storeClass f.dest f.cycles (v s) s).outcome) : StoreRule forms v := by
  intro b a f hf
  obtain ⟨h1, h2⟩ := h b a f hf
  refine ⟨h1, fun s => ⟨fun ho => ?_, fun ho => ?_⟩⟩
  · obtain ⟨t, ht⟩ := busWrite_ok ho
    exact ⟨t, ht, by rw [h2, storeClass_of_ok ht, outcome_ok]; rfl⟩
  · obtain ⟨c, t, ht⟩ := busWrite_stop ho
    exact ⟨c, t, ht, by rw [h2, storeClass_of_stop ht, outcome_stop]⟩

/-- An operand list whose entries run `rmwClass` follows the read-modify-write rule. -/
theorem rmwRule_of {forms : Byte → Word → List MemForm} {f : Byte → Bool → Shifted} {g : Shifted → State → State}
    (h : ∀ (b : Byte) (a : Word), ∀ m ∈ forms b a, (encode m.instr).head? = some m.op ∧
      ∀ s, exec m.instr s = (rmwClass m.dest m.cycles f g s).outcome) : RmwRule forms f g := by
  intro b a m hm
  obtain ⟨h1, h2⟩ := h b a m hm
  refine ⟨h1, fun s => ⟨fun ho => ?_, fun ho => ?_⟩⟩
  · obtain ⟨w, t, u, ht, hu⟩ := rmwOk_cases ho
    exact ⟨w, t, u, ht, hu, by rw [h2, rmwClass_of_ok ht hu, outcome_ok]; rfl⟩
  · obtain ⟨c, t, ht⟩ := rmwClass_of_not_ok (base := m.cycles) (g := g) ho
    exact ⟨c, t, by rw [h2, ht, outcome_stop]⟩

end Sys2Proof.Machine
end

