-- ==== Sys2Proof/Laws/Decode.lean ====
section
/-! SUPPORT. The byte-order and sign lemmas that decoding and encoding rest on (R51, R83). -/

namespace Sys2Proof

theorem joinBytes_toNat (hi lo : Byte) : (joinBytes hi lo).toNat = hi.toNat * 256 + lo.toNat := by
  have h := lo.isLt
  show (hi ++ lo).toNat = _
  rw [BitVec.toNat_append, ← Nat.shiftLeft_add_eq_or_of_lt h, Nat.shiftLeft_eq]

theorem lowByte_toNat (a : Word) : (lowByte a).toNat = a.toNat % 256 := by
  simp [lowByte]

theorem highByte_toNat (a : Word) : (highByte a).toNat = a.toNat / 256 := by
  have h := a.isLt
  have hs : (a >>> 8).toNat = a.toNat / 256 := by rw [BitVec.toNat_ushiftRight, Nat.shiftRight_eq_div_pow]
  show ((a >>> 8).setWidth 8).toNat = _
  rw [BitVec.toNat_setWidth, hs]
  omega

/-- A word is its two bytes joined. -/
@[simp] theorem joinBytes_highByte_lowByte (a : Word) : joinBytes (highByte a) (lowByte a) = a := by
  apply BitVec.eq_of_toNat_eq
  rw [joinBytes_toNat, lowByte_toNat, highByte_toNat]
  omega

@[simp] theorem lowByte_joinBytes (hi lo : Byte) : lowByte (joinBytes hi lo) = lo := by
  apply BitVec.eq_of_toNat_eq
  have h := lo.isLt
  rw [lowByte_toNat, joinBytes_toNat]
  omega

@[simp] theorem highByte_joinBytes (hi lo : Byte) : highByte (joinBytes hi lo) = hi := by
  apply BitVec.eq_of_toNat_eq
  have h := lo.isLt
  rw [highByte_toNat, joinBytes_toNat]
  omega

/-- A displacement in range is its byte read as signed. -/
theorem signedByte_relByte {off : Int} (h : relInRange off = true) : signedByte (relByte off) = off := by
  simp only [relInRange, Bool.and_eq_true, decide_eq_true_eq] at h
  simp only [signedByte, relByte, BitVec.toInt_ofInt]
  rw [Int.bmod_def]
  omega

@[simp] theorem relByte_signedByte (b : Byte) : relByte (signedByte b) = b := by
  simp [relByte, signedByte]

theorem relInRange_signedByte (b : Byte) : relInRange (signedByte b) = true := by
  have h1 := BitVec.toInt_lt (x := b)
  have h2 := BitVec.le_toInt (x := b)
  unfold relInRange signedByte
  rw [Bool.and_eq_true, decide_eq_true_eq, decide_eq_true_eq]
  omega

/-- The signed reading of a byte, by cases (R83). -/
theorem signedByte_eq (b : Byte) : signedByte b = if b.toNat < 128 then (b.toNat : Int) else b.toNat - 256 := by
  have h := b.isLt
  simp only [signedByte, BitVec.toInt_eq_toNat_cond]
  split <;> split <;> omega

/-- Every opcode byte has a row (R81). -/
theorem opcodeTable_length : opcodeTable.length = 256 := by
  simp only [opcodeTable, List.length_append]; rfl

/-- Decoding an opcode of each kind of row, on the bytes that `encode` writes for it. -/
theorem decode_f1 {op : Byte} {i : Instr} (h : patternOf op = some (.f1 i)) (rest : List Byte) :
    decode ([op] ++ rest) = .ok (i, rest) := by
  simp only [List.cons_append, List.nil_append, decode, h]

theorem decode_f2 {op : Byte} {make : Byte → Instr} (h : patternOf op = some (.f2 make)) (b : Byte)
    (rest : List Byte) : decode (encodeByte op b ++ rest) = .ok (make b, rest) := by
  simp only [encodeByte, List.cons_append, List.nil_append, decode, h]

theorem decode_f3 {op : Byte} {make : Word → Instr} (h : patternOf op = some (.f3 make)) (a : Word)
    (rest : List Byte) : decode (encodeWord op a ++ rest) = .ok (make a, rest) := by
  simp only [encodeWord, List.cons_append, List.nil_append, decode, h, joinBytes_highByte_lowByte]

theorem decode_rel {op : Byte} {make : Int → Instr} (h : patternOf op = some (.rel make)) {off : Int}
    (hoff : relInRange off = true) (rest : List Byte) :
    decode (encodeByte op (relByte off) ++ rest) = .ok (make off, rest) := by
  rw [decode_f2 h, signedByte_relByte hoff]

end Sys2Proof
end

