-- ==== Sys2Proof/Laws/Flags.lean ====
section
/-! SUPPORT. The flag computations as arithmetic on the byte's value (R170 to R174). -/

namespace Sys2Proof.Machine

theorem beq_eq_decide (r m : Byte) : (r == m) = decide (r = m) := by
  rw [Bool.eq_iff_iff]; simp

theorem getLsbD_seven (w : Byte) : w.getLsbD 7 = decide (128 ≤ w.toNat) := by
  have h := BitVec.msb_eq_decide w
  simpa [BitVec.msb, BitVec.getMsbD] using h

theorem inc_eq_ofNat (w : Byte) : w + 1 = BitVec.ofNat 8 (w.toNat + 1) := by
  apply BitVec.eq_of_toNat_eq; simp

theorem dec_eq_ofNat (w : Byte) : w - 1 = BitVec.ofNat 8 (w.toNat + 255) := by
  apply BitVec.eq_of_toNat_eq; simp [BitVec.toNat_sub]; omega

theorem sub_eq_ofNat (r m : Byte) : r - m = BitVec.ofNat 8 (r.toNat + 256 - m.toNat) := by
  have h := m.isLt
  apply BitVec.eq_of_toNat_eq; simp [BitVec.toNat_sub]; omega

/-- The sum and its carry (R170). -/
theorem add8_sum (a m : Byte) (c : Bool) : (add8 a m c).r = BitVec.ofNat 8 (a.toNat + m.toNat + c.toNat) ∧
    ((add8 a m c).carry = true ↔ 255 < a.toNat + m.toNat + c.toNat) := by
  simp [add8]

/-- The overflow bit of a sum, as a condition on the operands' and the result's top bits (R170). -/
theorem add8_overflow_bits (a m : Byte) (c : Bool) : (add8 a m c).overflow =
    ((decide (128 ≤ a.toNat) != decide (128 ≤ (a.toNat + m.toNat + c.toNat) % 256)) &&
     (decide (128 ≤ m.toNat) != decide (128 ≤ (a.toNat + m.toNat + c.toNat) % 256))) := by
  unfold add8
  simp only
  rw [BitVec.getLsbD_and, BitVec.getLsbD_xor, BitVec.getLsbD_xor]
  simp only [getLsbD_seven, BitVec.toNat_ofNat]

theorem asl8_eq (w : Byte) (c : Bool) :
    asl8 w c = { r := BitVec.ofNat 8 (w.toNat * 2), carry := decide (128 ≤ w.toNat) } := by
  have : w <<< 1 = BitVec.ofNat 8 (w.toNat * 2) := by
    apply BitVec.eq_of_toNat_eq; simp [Nat.shiftLeft_eq]
  rw [asl8, this, getLsbD_seven]

theorem lsr8_eq (w : Byte) (c : Bool) :
    lsr8 w c = { r := BitVec.ofNat 8 (w.toNat / 2), carry := decide (w.toNat % 2 = 1) } := by
  have h : ∀ w : Byte, lsr8 w false = { r := BitVec.ofNat 8 (w.toNat / 2), carry := decide (w.toNat % 2 = 1) } := by
    decide
  exact h w

theorem rol8_eq (w : Byte) (c : Bool) :
    rol8 w c = { r := BitVec.ofNat 8 (w.toNat * 2 + c.toNat), carry := decide (128 ≤ w.toNat) } := by
  revert c w; decide

theorem ror8_eq (w : Byte) (c : Bool) :
    ror8 w c = { r := BitVec.ofNat 8 (w.toNat / 2 + c.toNat * 128), carry := decide (w.toNat % 2 = 1) } := by
  revert c w; decide

theorem inc8_eq (w : Byte) (c : Bool) : inc8 w c = { r := BitVec.ofNat 8 (w.toNat + 1), carry := c } := by
  rw [inc8, inc_eq_ofNat]

theorem dec8_eq (w : Byte) (c : Bool) : dec8 w c = { r := BitVec.ofNat 8 (w.toNat + 255), carry := c } := by
  rw [dec8, dec_eq_ofNat]

/-- The sign bit after a rotate right is the carry before it (R169). -/
theorem ror8_sign (w : Byte) (c : Bool) : (ror8 w c).r.getLsbD 7 = c := by
  revert c w; decide

/-- A packed status byte, bit by bit (R14). -/
theorem pByte_bits (brk : Bool) (s : State) :
    (pByte brk s).getLsbD 7 = s.n ∧ (pByte brk s).getLsbD 6 = s.v ∧ (pByte brk s).getLsbD 5 = true ∧
    (pByte brk s).getLsbD 4 = brk ∧ (pByte brk s).getLsbD 3 = s.d ∧ (pByte brk s).getLsbD 2 = s.i ∧
    (pByte brk s).getLsbD 1 = s.z ∧ (pByte brk s).getLsbD 0 = s.c := by
  unfold pByte
  generalize s.n = n; generalize s.v = v; generalize s.d = d; generalize s.i = i; generalize s.z = z
  generalize s.c = c
  revert n v brk d i z c; decide

end Sys2Proof.Machine
end

