-- ==== Sys2Proof/Laws/Stack.lean ====
section
/-! SUPPORT. The stack cells and the vectors seen through `storedByte` (R11, R55, R453), and what pushes leave. -/

namespace Sys2Proof.Machine

open Sys2Proof.Forms

/-- Every address falls in exactly one region (R40). -/
theorem region_cases (a : Word) :
    (a.toNat < 0x2000 ∧ region a = .ram (a.toNat % 0x800)) ∨
    (0x2000 ≤ a.toNat ∧ a.toNat ≤ 0x3FFF ∧ region a = .ppu (ppuReg a)) ∨
    (a = 0x4014 ∧ region a = .bulkCopy) ∨
    (0x4000 ≤ a.toNat ∧ a.toNat ≤ 0x41FF ∧ a.toNat ≠ 0x4014 ∧ region a = .io) ∨
    (0x4200 ≤ a.toNat ∧ region a = .cart a.toNat) := by
  by_cases h1 : a.toNat < 0x2000
  · exact .inl ⟨h1, region_ram (by omega)⟩
  by_cases h2 : a.toNat ≤ 0x3FFF
  · exact .inr (.inl ⟨by omega, h2, region_ppu (by omega) h2⟩)
  by_cases h3 : a.toNat = 0x4014
  · have : a = 0x4014 := BitVec.eq_of_toNat_eq h3
    subst this; exact .inr (.inr (.inl ⟨rfl, rfl⟩))
  by_cases h4 : a.toNat ≤ 0x41FF
  · exact .inr (.inr (.inr (.inl ⟨by omega, h4, h3, region_io (by omega) h4 h3⟩)))
  exact .inr (.inr (.inr (.inr ⟨by omega, region_cart (by omega)⟩)))

theorem stackAddr_toNat (sp : Byte) : (stackAddr sp).toNat = stackCell sp := by
  have := sp.isLt
  simp [stackAddr, stackCell, Config.stackBase]; omega

theorem stackCell_bounds (sp : Byte) : 0x100 ≤ stackCell sp ∧ stackCell sp < 0x200 := by
  have := sp.isLt
  simp [stackCell, Config.stackBase]; omega

theorem stackCell_inj {p q : Byte} (h : stackCell p = stackCell q) : p = q := by
  apply BitVec.eq_of_toNat_eq
  simpa [stackCell] using h

/-- A stack address is a RAM address (R11, R55). -/
theorem region_stackAddr (sp : Byte) : region (stackAddr sp) = .ram (stackCell sp) := by
  have h := stackCell_bounds sp
  rw [region_ram (by rw [stackAddr_toNat]; omega), stackAddr_toNat, Nat.mod_eq_of_lt (by omega)]

theorem storedByte_stackAddr (s : State) (sp : Byte) : storedByte s (stackAddr sp) = some (readCell s.ram (stackCell sp)) := by
  simp [storedByte, region_stackAddr]

theorem storedByte_cart {a : Word} (s : State) (h : 0x4200 ≤ a.toNat) :
    storedByte s a = some (readCell s.cart a.toNat) := by
  simp [storedByte, region_cart h]

theorem storedByte_of_mem_eq {s t : State} (hr : t.ram = s.ram) (hc : t.cart = s.cart) (a : Word) :
    storedByte t a = storedByte s a := by
  simp [storedByte, hr, hc]

/-- A push keeps RAM in its form. -/
theorem push_wf {s : State} (w : Byte) (h : memoryWf 0 0x800 s.ram = true) : memoryWf 0 0x800 (push w s).ram = true := by
  have := stackCell_bounds s.sp
  exact writeCell_wf w h (by omega) (by omega)

/-- What one push leaves in memory (R11). -/
theorem push_storedByte {s : State} (w : Byte) (h : memoryWf 0 0x800 s.ram = true) (a : Word) :
    storedByte (push w s) a = if region a = region (stackAddr s.sp) then some w else storedByte s a := by
  rw [region_stackAddr]
  unfold storedByte
  cases ha : region a with
  | ram k =>
    simp only [push, readCell_writeCell h, Region.ram.injEq]
    split <;> rfl
  | cart k => simp [push]
  | ppu r => simp
  | bulkCopy => simp
  | io => simp

theorem sub_one_sub_ofNat (p : Byte) (k : Nat) : p - 1 - BitVec.ofNat 8 k = p - BitVec.ofNat 8 (k + 1) := by
  apply BitVec.eq_of_toNat_eq
  have h1 : (1 : Byte).toNat = 1 := rfl
  simp only [BitVec.toNat_sub, BitVec.toNat_ofNat, h1]
  omega

/-- Pushing a list of bytes, the first one first. -/
def pushAll : List Byte → State → State
  | [], s => s
  | w :: ws, s => pushAll ws (push w s)

theorem pushAll_sp (ws : List Byte) (s : State) : (pushAll ws s).sp = s.sp - BitVec.ofNat 8 ws.length := by
  induction ws generalizing s with
  | nil => simp [pushAll]
  | cons w ws ih =>
    rw [pushAll, ih, push_sp, List.length_cons, sub_one_sub_ofNat]

theorem stackAddr_region_eq {p q : Byte} (h : region (stackAddr p) = region (stackAddr q)) : p = q := by
  simp only [region_stackAddr, Region.ram.injEq] at h
  exact stackCell_inj h

theorem pushAll_others {s : State} (ws : List Byte) (h : memoryWf 0 0x800 s.ram = true) (a : Word)
    (ha : ∀ k < ws.length, region a ≠ region (stackAddr (s.sp - BitVec.ofNat 8 k))) :
    storedByte (pushAll ws s) a = storedByte s a := by
  induction ws generalizing s with
  | nil => rfl
  | cons w ws ih =>
    rw [pushAll, ih (push_wf w h), push_storedByte w h, if_neg]
    · have := ha 0 (by simp)
      simpa using this
    · intro k hk
      have := ha (k + 1) (by simpa using hk)
      rw [push_sp]
      rwa [sub_one_sub_ofNat]

theorem sub_ofNat_inj {p : Byte} {j k : Nat} (hj : j < 256) (hk : k < 256)
    (h : p - BitVec.ofNat 8 j = p - BitVec.ofNat 8 k) : j = k := by
  have := congrArg BitVec.toNat h
  have hp := p.isLt
  simp only [BitVec.toNat_sub, BitVec.toNat_ofNat] at this
  omega

/-- A list of at most 256 bytes pushed stands in the stack page (R11). -/
theorem pushAll_pushed {s : State} (ws : List Byte) (h : memoryWf 0 0x800 s.ram = true) (hl : ws.length ≤ 256) :
    Pushed ws s (pushAll ws s) := by
  refine ⟨?_, pushAll_sp ws s, fun a ha => pushAll_others ws h a ha⟩
  induction ws generalizing s with
  | nil => simp
  | cons w ws ih =>
    intro k v hk
    rw [List.length_cons] at hl
    cases k with
    | zero =>
      simp at hk; subst hk
      rw [pushAll, pushAll_others ws (push_wf w h), push_storedByte w h]
      · simp
      · intro j hj he
        have := stackAddr_region_eq he
        rw [push_sp] at this
        have h2 : s.sp - BitVec.ofNat 8 0 = s.sp - BitVec.ofNat 8 (j + 1) := by
          rw [this, sub_one_sub_ofNat]
        have := sub_ofNat_inj (by omega) (by omega) h2
        omega
    | succ k =>
      have := ih (s := push w s) (push_wf w h) (by omega) k v (by simpa using hk)
      rw [push_sp] at this
      rwa [← sub_one_sub_ofNat]

/-- The bits of the pushed status byte (R14). -/
theorem pByte_statusBits (brk : Bool) (s : State) : StatusBits brk s (pByte brk s) := by
  obtain ⟨h7, h6, h5, h4, h3, h2, h1, h0⟩ := pByte_bits brk s
  exact ⟨h7, h6, h5, h4, h3, h2, h1, h0⟩

end Sys2Proof.Machine

namespace Sys2Proof.Forms

open Sys2Proof.Machine

theorem Pushed.congr {ws : List Byte} {s t u : State} (h : Pushed ws s t) (hr : u.ram = t.ram) (hc : u.cart = t.cart)
    (hsp : u.sp = t.sp) : Pushed ws s u := by
  refine ⟨fun k w hk => ?_, by rw [hsp]; exact h.sp, fun a ha => ?_⟩
  · rw [storedByte_of_mem_eq hr hc]; exact h.stored k w hk
  · rw [storedByte_of_mem_eq hr hc]; exact h.others a ha

end Sys2Proof.Forms

namespace Sys2Proof.Machine

open Sys2Proof.Forms

/-- Everything that taking an interrupt does (R450, R196): what it leaves is what `EntersHandler` says, whatever the
caller does to the cycle counter and the NMI request. -/
theorem enterInterrupt_entersHandler {ret vec : Word} {brk : Bool} {s t : State} (hv : 0x4200 ≤ vec.toNat)
    (hv' : vec.toNat < 0xFFFF) (h : memoryWf 0 0x800 s.ram = true)
    (he : t = { enterInterrupt ret brk vec.toNat s with cyc := t.cyc, nmiReq := t.nmiReq }) :
    EntersHandler ret brk vec s t := by
  have hv1 : (vec + 1).toNat = vec.toNat + 1 := by
    rw [BitVec.toNat_add, show (1 : Word).toNat = 1 from rfl]; omega
  have hpc : t.pc = vectorAt vec.toNat s := by rw [he]; rfl
  refine ⟨⟨pByte brk s, pByte_statusBits _ _,
    (pushAll_pushed [highByte ret, lowByte ret, pByte brk s] h (by simp)).congr ?_ ?_ ?_⟩, ?_, ?_, ?_, ?_⟩
  · rw [he]; rfl
  · rw [he]; rfl
  · rw [he]; rfl
  · rw [he]; rfl
  · rw [storedByte_cart s hv, hpc, vectorAt, lowByte_joinBytes]
  · rw [storedByte_cart s (by omega), hv1, hpc, vectorAt, highByte_joinBytes]
  · rw [he]; rfl

end Sys2Proof.Machine
end

