-- ==== Sys2Proof/Laws/Exec.lean ====
section
/-! SUPPORT. What executing an instruction can do, said once: every instruction has one of seven shapes (R103, R481).
Frames, costs and invariants are read off the shape; no later proof unfolds the 256 meanings. -/

namespace Sys2Proof.Machine

open Sys2Proof.Forms

/-- Only CPU registers, flags and counters differ. -/
def RegsOnly (s t : State) : Prop :=
  t = { s with a := t.a, x := t.x, y := t.y, sp := t.sp, pc := t.pc, n := t.n, v := t.v, d := t.d, i := t.i, z := t.z,
               c := t.c, cyc := t.cyc }

/-- Only the registers and flags of the list differ, `pc` and the counter apart. -/
def KeepRegs (L : List Reg) (s t : State) : Prop := ∀ r : Reg, r ∉ L → r.value t = r.value s

theorem KeepRegs.trans {L : List Reg} {s t u : State} (h : KeepRegs L s t) (h' : KeepRegs L t u) : KeepRegs L s u :=
  fun r hr => (h' r hr).trans (h r hr)

theorem KeepRegs.mono {L : List Reg} {s t : State} (h : KeepRegs [] s t) : KeepRegs L s t :=
  fun r _ => h r (by simp)

-- The effects keep the registers their rule does not name

theorem loadA_keeps (w : Byte) (s : State) : KeepRegs [.A, .N, .Z] s (loadA w s) := by
  intro r hr; cases r <;> first | rfl | simp at hr
theorem loadX_keeps (w : Byte) (s : State) : KeepRegs [.X, .N, .Z] s (loadX w s) := by
  intro r hr; cases r <;> first | rfl | simp at hr
theorem loadY_keeps (w : Byte) (s : State) : KeepRegs [.Y, .N, .Z] s (loadY w s) := by
  intro r hr; cases r <;> first | rfl | simp at hr
theorem loadAX_keeps (w : Byte) (s : State) : KeepRegs [.A, .X, .N, .Z] s (loadAX w s) := by
  intro r hr; cases r <;> first | rfl | simp at hr
theorem adc_keeps (w : Byte) (s : State) : KeepRegs [.A, .N, .V, .Z, .C] s (adc w s) := by
  intro r hr; cases r <;> first | rfl | simp at hr
theorem sbc_keeps (w : Byte) (s : State) : KeepRegs [.A, .N, .V, .Z, .C] s (sbc w s) := by
  intro r hr; cases r <;> first | rfl | simp at hr
theorem andA_keeps (w : Byte) (s : State) : KeepRegs [.A, .N, .Z] s (andA w s) := by
  intro r hr; cases r <;> first | rfl | simp at hr
theorem oraA_keeps (w : Byte) (s : State) : KeepRegs [.A, .N, .Z] s (oraA w s) := by
  intro r hr; cases r <;> first | rfl | simp at hr
theorem eorA_keeps (w : Byte) (s : State) : KeepRegs [.A, .N, .Z] s (eorA w s) := by
  intro r hr; cases r <;> first | rfl | simp at hr
theorem bitTest_keeps (w : Byte) (s : State) : KeepRegs [.N, .V, .Z] s (bitTest w s) := by
  intro r hr; cases r <;> first | rfl | simp at hr
theorem cmpA_keeps (w : Byte) (s : State) : KeepRegs [.N, .Z, .C] s (cmpA w s) := by
  intro r hr; cases r <;> first | rfl | simp at hr
theorem cmpX_keeps (w : Byte) (s : State) : KeepRegs [.N, .Z, .C] s (cmpX w s) := by
  intro r hr; cases r <;> first | rfl | simp at hr
theorem cmpY_keeps (w : Byte) (s : State) : KeepRegs [.N, .Z, .C] s (cmpY w s) := by
  intro r hr; cases r <;> first | rfl | simp at hr
theorem nopRead_keeps (w : Byte) (s : State) : KeepRegs [] s (nopRead w s) := by
  intro r hr; cases r <;> first | rfl | simp at hr
theorem anc_keeps (w : Byte) (s : State) : KeepRegs [.A, .N, .Z, .C] s (anc w s) := by
  intro r hr; cases r <;> first | rfl | simp at hr
theorem alr_keeps (w : Byte) (s : State) : KeepRegs [.A, .N, .Z, .C] s (alr w s) := by
  intro r hr; cases r <;> first | rfl | simp at hr
theorem arr_keeps (w : Byte) (s : State) : KeepRegs [.A, .N, .V, .Z, .C] s (arr w s) := by
  intro r hr; cases r <;> first | rfl | simp at hr
theorem sbx_keeps (w : Byte) (s : State) : KeepRegs [.X, .N, .Z, .C] s (sbx w s) := by
  intro r hr; cases r <;> first | rfl | simp at hr
theorem keepNZ_keeps (t : Shifted) (s : State) : KeepRegs [.N, .Z] s (keepNZ t s) := by
  intro r hr; cases r <;> first | rfl | simp at hr
theorem shiftNZC_keeps (t : Shifted) (s : State) : KeepRegs [.N, .Z, .C] s (shiftNZC t s) := by
  intro r hr; cases r <;> first | rfl | simp at hr
theorem sloA_keeps (t : Shifted) (s : State) : KeepRegs [.A, .N, .Z, .C] s (sloA t s) := by
  intro r hr; cases r <;> first | rfl | simp at hr
theorem rlaA_keeps (t : Shifted) (s : State) : KeepRegs [.A, .N, .Z, .C] s (rlaA t s) := by
  intro r hr; cases r <;> first | rfl | simp at hr
theorem sreA_keeps (t : Shifted) (s : State) : KeepRegs [.A, .N, .Z, .C] s (sreA t s) := by
  intro r hr; cases r <;> first | rfl | simp at hr
theorem rraA_keeps (t : Shifted) (s : State) : KeepRegs [.A, .N, .V, .Z, .C] s (rraA t s) := by
  intro r hr; cases r <;> first | rfl | simp at hr
theorem dcpA_keeps (t : Shifted) (s : State) : KeepRegs [.N, .Z, .C] s (dcpA t s) := by
  intro r hr; cases r <;> first | rfl | simp at hr
theorem iscA_keeps (t : Shifted) (s : State) : KeepRegs [.A, .N, .V, .Z, .C] s (iscA t s) := by
  intro r hr; cases r <;> first | rfl | simp at hr
theorem tax_keeps (s : State) : KeepRegs [.X, .N, .Z] s (tax s) := by
  intro r hr; cases r <;> first | rfl | simp at hr
theorem tay_keeps (s : State) : KeepRegs [.Y, .N, .Z] s (tay s) := by
  intro r hr; cases r <;> first | rfl | simp at hr
theorem txa_keeps (s : State) : KeepRegs [.A, .N, .Z] s (txa s) := by
  intro r hr; cases r <;> first | rfl | simp at hr
theorem tya_keeps (s : State) : KeepRegs [.A, .N, .Z] s (tya s) := by
  intro r hr; cases r <;> first | rfl | simp at hr
theorem tsx_keeps (s : State) : KeepRegs [.X, .N, .Z] s (tsx s) := by
  intro r hr; cases r <;> first | rfl | simp at hr
theorem txs_keeps (s : State) : KeepRegs [.S] s (txs s) := by
  intro r hr; cases r <;> first | rfl | simp at hr
theorem pla_keeps (s : State) : KeepRegs [.A, .S, .N, .Z] s (pla s) := by
  intro r hr; cases r <;> first | rfl | simp at hr
theorem plp_keeps (s : State) : KeepRegs [.S, .N, .V, .D, .I, .Z, .C] s (plp s) := by
  intro r hr; cases r <;> first | rfl | simp at hr
theorem inx_keeps (s : State) : KeepRegs [.X, .N, .Z] s (inx s) := by
  intro r hr; cases r <;> first | rfl | simp at hr
theorem iny_keeps (s : State) : KeepRegs [.Y, .N, .Z] s (iny s) := by
  intro r hr; cases r <;> first | rfl | simp at hr
theorem dex_keeps (s : State) : KeepRegs [.X, .N, .Z] s (dex s) := by
  intro r hr; cases r <;> first | rfl | simp at hr
theorem dey_keeps (s : State) : KeepRegs [.Y, .N, .Z] s (dey s) := by
  intro r hr; cases r <;> first | rfl | simp at hr
theorem rts_keeps (s : State) : KeepRegs [.S] s (rts s) := by
  intro r hr; cases r <;> first | rfl | simp at hr
theorem returnFromInterrupt_keeps (s : State) : KeepRegs [.S, .N, .V, .D, .I, .Z, .C] s (returnFromInterrupt s) := by
  intro r hr; cases r <;> first | rfl | simp at hr
theorem clc_keeps (s : State) : KeepRegs [.C] s (clc s) := by
  intro r hr; cases r <;> first | rfl | simp at hr
theorem sec_keeps (s : State) : KeepRegs [.C] s (sec s) := by
  intro r hr; cases r <;> first | rfl | simp at hr
theorem cli_keeps (s : State) : KeepRegs [.I] s (cli s) := by
  intro r hr; cases r <;> first | rfl | simp at hr
theorem sei_keeps (s : State) : KeepRegs [.I] s (sei s) := by
  intro r hr; cases r <;> first | rfl | simp at hr
theorem clv_keeps (s : State) : KeepRegs [.V] s (clv s) := by
  intro r hr; cases r <;> first | rfl | simp at hr
theorem cld_keeps (s : State) : KeepRegs [.D] s (cld s) := by
  intro r hr; cases r <;> first | rfl | simp at hr
theorem sed_keeps (s : State) : KeepRegs [.D] s (sed s) := by
  intro r hr; cases r <;> first | rfl | simp at hr
theorem id_keeps (s : State) : KeepRegs [] s (id s) := by
  intro r hr; cases r <;> first | rfl | simp at hr

/-- The bus addresses of an operand. -/
def operandAddrs (o : Operand) (s : State) : List Word :=
  match o with
  | .mem m => [(resolve m s).addr]
  | .acc | .imm _ => []

/-- The shapes of `exec i`. Each carries what the instruction's row says of it: the operand, the addresses it stores
to and accesses, the registers it may write, and its cost. -/
inductive ExecShape (i : Instr) : Prop where
  /-- One operand read, then registers and flags. -/
  | read (o : Operand) (base : Nat) (g : Byte → State → State)
      (stores : ∀ s, storeAddrs i s = []) (data : ∀ s, dataAddrs i s = operandAddrs o s)
      (regs : ∀ w u, RegsOnly u (g w u)) (same : ∀ w u, (g w u).cyc = u.cyc)
      (keeps : ∀ w u, KeepRegs (mayWrite i.row.mnemonic i.row.mode) u (g w u))
      (lo : 2 ≤ base) (hi : base ≤ 6) (run : ∀ s, exec i s = (readClass o base g s).outcome)
  /-- One bus write. -/
  | store (m : MemOperand) (base : Nat) (value : State → Byte)
      (stores : ∀ s, storeAddrs i s = [(resolve m s).addr]) (data : ∀ s, dataAddrs i s = [(resolve m s).addr])
      (lo : 2 ≤ base) (hi : base ≤ 8) (run : ∀ s, exec i s = (storeClass m base (value s) s).outcome)
  /-- One read and one write of the same address, then registers and flags. -/
  | rmw (m : MemOperand) (base : Nat) (f : Byte → Bool → Shifted) (g : Shifted → State → State)
      (stores : ∀ s, storeAddrs i s = [(resolve m s).addr]) (data : ∀ s, dataAddrs i s = [(resolve m s).addr])
      (regs : ∀ q u, RegsOnly u (g q u)) (same : ∀ q u, (g q u).cyc = u.cyc)
      (keeps : ∀ q u, KeepRegs (mayWrite i.row.mnemonic i.row.mode) u (g q u))
      (lo : 2 ≤ base) (hi : base ≤ 8) (run : ∀ s, exec i s = (rmwClass m base f g s).outcome)
  /-- Registers, flags, `pc` and pulls only; it always completes. -/
  | regs (cost : State → Nat) (g : State → State)
      (stores : ∀ s, storeAddrs i s = []) (data : ∀ s, dataAddrs i s = [])
      (regs : ∀ s, RegsOnly s (g s)) (same : ∀ s, (g s).cyc = s.cyc)
      (keeps : ∀ s, KeepRegs (mayWrite i.row.mnemonic i.row.mode) s (g s))
      (lo : ∀ s, 2 ≤ cost s) (hi : ∀ s, cost s ≤ 8) (run : ∀ s, exec i s = .next (spend (cost s) (g s)))
  /-- Bytes pushed, then registers, flags and `pc`; it always completes. -/
  | push (base : Nat) (bytes : State → List Byte) (g : State → State)
      (stores : ∀ s k, k < (bytes s).length → stackAddr (s.sp - BitVec.ofNat 8 k) ∈ storeAddrs i s)
      (data : ∀ s, dataAddrs i s = []) (few : ∀ s, (bytes s).length ≤ 3)
      (regs : ∀ u, RegsOnly u (g u)) (same : ∀ s, (g (pushAll (bytes s) s)).cyc = s.cyc)
      (keeps : ∀ s, KeepRegs (mayWrite i.row.mnemonic i.row.mode) s (g (pushAll (bytes s) s)))
      (lo : 2 ≤ base) (hi : base ≤ 8) (run : ∀ s, exec i s = .next (spend base (g (pushAll (bytes s) s))))
  /-- Two pointer reads, then `pc`. -/
  | jump (p : Word) (stores : ∀ s, storeAddrs i s = []) (data : ∀ s, dataAddrs i s = [p, pointerHigh s.cfg p])
      (run : ∀ s, exec i s = (jumpIndirect p 5 s).outcome)
  /-- A stub opcode: it stops. -/
  | stop (op : Byte) (mem : stubSet.contains op = true) (run : ∀ s, exec i s = stub op s)

theorem branch_eq (cond : Bool) (off : Int) (s : State) :
    (branch cond off s).outcome =
      .next (spend (if cond then 2 + 1 + (pagesDiffer (s.pc + BitVec.ofInt 16 off) s.pc).toNat else 2)
        { s with pc := if cond then s.pc + BitVec.ofInt 16 off else s.pc }) := by
  cases cond <;> rfl

theorem branch_shape {i : Instr} (cond : State → Bool) (off : Int) (stores : ∀ s, storeAddrs i s = [])
    (data : ∀ s, dataAddrs i s = []) (run : ∀ s, exec i s = (branch (cond s) off s).outcome) : ExecShape i := by
  refine .regs
    (fun s => if cond s then 2 + 1 + (pagesDiffer (s.pc + BitVec.ofInt 16 off) s.pc).toNat else 2)
    (fun s => { s with pc := if cond s then s.pc + BitVec.ofInt 16 off else s.pc })
    stores data (fun _ => rfl) (fun _ => rfl) (fun s => ?_) (fun s => ?_) (fun s => ?_)
    fun s => (run s).trans (branch_eq (cond s) off s)
  · intro r _; cases r <;> rfl
  · split <;> omega
  · have := Bool.toNat_le (pagesDiffer (s.pc + BitVec.ofInt 16 off) s.pc)
    split <;> omega

theorem implied_shape {i : Instr} (base : Nat) (g : State → State) (stores : ∀ s, storeAddrs i s = [])
    (data : ∀ s, dataAddrs i s = []) (regs : ∀ s, RegsOnly s (g s)) (same : ∀ s, (g s).cyc = s.cyc)
    (keeps : ∀ s, KeepRegs (mayWrite i.row.mnemonic i.row.mode) s (g s)) (lo : 2 ≤ base) (hi : base ≤ 8)
    (run : ∀ s, exec i s = .next (spend base (g s))) : ExecShape i :=
  .regs (fun _ => base) g stores data regs same keeps (fun _ => lo) (fun _ => hi) run

theorem acc_keeps (f : Byte → Bool → Shifted) (s : State) :
    KeepRegs [.A, .N, .Z, .C] s (shiftNZC (f s.a s.c) { s with a := (f s.a s.c).r }) := by
  intro r hr; cases r <;> first | rfl | simp at hr

theorem stackAddr_sub_zero (p : Byte) : stackAddr (p - BitVec.ofNat 8 0) = stackAddr p := by simp

theorem shape_ldaIzx (z : Byte) : ExecShape (.ldaIzx z) :=
  .read (.mem (.izx z)) 6 loadA (fun _ => rfl) (fun _ => rfl) (fun _ _ => rfl) (fun _ _ => rfl) loadA_keeps (by decide) (by decide) fun _ => rfl
theorem shape_ldaZp (z : Byte) : ExecShape (.ldaZp z) :=
  .read (.mem (.zp z)) 3 loadA (fun _ => rfl) (fun _ => rfl) (fun _ _ => rfl) (fun _ _ => rfl) loadA_keeps (by decide) (by decide) fun _ => rfl
theorem shape_ldaImm (v : Byte) : ExecShape (.ldaImm v) :=
  .read (.imm v) 2 loadA (fun _ => rfl) (fun _ => rfl) (fun _ _ => rfl) (fun _ _ => rfl) loadA_keeps (by decide) (by decide) fun _ => rfl
theorem shape_ldaAbs (a : Word) : ExecShape (.ldaAbs a) :=
  .read (.mem (.abs a)) 4 loadA (fun _ => rfl) (fun _ => rfl) (fun _ _ => rfl) (fun _ _ => rfl) loadA_keeps (by decide) (by decide) fun _ => rfl
theorem shape_ldaIzy (z : Byte) : ExecShape (.ldaIzy z) :=
  .read (.mem (.izy z)) 5 loadA (fun _ => rfl) (fun _ => rfl) (fun _ _ => rfl) (fun _ _ => rfl) loadA_keeps (by decide) (by decide) fun _ => rfl
theorem shape_ldaZpx (z : Byte) : ExecShape (.ldaZpx z) :=
  .read (.mem (.zpx z)) 4 loadA (fun _ => rfl) (fun _ => rfl) (fun _ _ => rfl) (fun _ _ => rfl) loadA_keeps (by decide) (by decide) fun _ => rfl
theorem shape_ldaAby (a : Word) : ExecShape (.ldaAby a) :=
  .read (.mem (.aby a)) 4 loadA (fun _ => rfl) (fun _ => rfl) (fun _ _ => rfl) (fun _ _ => rfl) loadA_keeps (by decide) (by decide) fun _ => rfl
theorem shape_ldaAbx (a : Word) : ExecShape (.ldaAbx a) :=
  .read (.mem (.abx a)) 4 loadA (fun _ => rfl) (fun _ => rfl) (fun _ _ => rfl) (fun _ _ => rfl) loadA_keeps (by decide) (by decide) fun _ => rfl
theorem shape_ldxImm (v : Byte) : ExecShape (.ldxImm v) :=
  .read (.imm v) 2 loadX (fun _ => rfl) (fun _ => rfl) (fun _ _ => rfl) (fun _ _ => rfl) loadX_keeps (by decide) (by decide) fun _ => rfl
theorem shape_ldxZp (z : Byte) : ExecShape (.ldxZp z) :=
  .read (.mem (.zp z)) 3 loadX (fun _ => rfl) (fun _ => rfl) (fun _ _ => rfl) (fun _ _ => rfl) loadX_keeps (by decide) (by decide) fun _ => rfl
theorem shape_ldxAbs (a : Word) : ExecShape (.ldxAbs a) :=
  .read (.mem (.abs a)) 4 loadX (fun _ => rfl) (fun _ => rfl) (fun _ _ => rfl) (fun _ _ => rfl) loadX_keeps (by decide) (by decide) fun _ => rfl
theorem shape_ldxZpy (z : Byte) : ExecShape (.ldxZpy z) :=
  .read (.mem (.zpy z)) 4 loadX (fun _ => rfl) (fun _ => rfl) (fun _ _ => rfl) (fun _ _ => rfl) loadX_keeps (by decide) (by decide) fun _ => rfl
theorem shape_ldxAby (a : Word) : ExecShape (.ldxAby a) :=
  .read (.mem (.aby a)) 4 loadX (fun _ => rfl) (fun _ => rfl) (fun _ _ => rfl) (fun _ _ => rfl) loadX_keeps (by decide) (by decide) fun _ => rfl
theorem shape_ldyImm (v : Byte) : ExecShape (.ldyImm v) :=
  .read (.imm v) 2 loadY (fun _ => rfl) (fun _ => rfl) (fun _ _ => rfl) (fun _ _ => rfl) loadY_keeps (by decide) (by decide) fun _ => rfl
theorem shape_ldyZp (z : Byte) : ExecShape (.ldyZp z) :=
  .read (.mem (.zp z)) 3 loadY (fun _ => rfl) (fun _ => rfl) (fun _ _ => rfl) (fun _ _ => rfl) loadY_keeps (by decide) (by decide) fun _ => rfl
theorem shape_ldyAbs (a : Word) : ExecShape (.ldyAbs a) :=
  .read (.mem (.abs a)) 4 loadY (fun _ => rfl) (fun _ => rfl) (fun _ _ => rfl) (fun _ _ => rfl) loadY_keeps (by decide) (by decide) fun _ => rfl
theorem shape_ldyZpx (z : Byte) : ExecShape (.ldyZpx z) :=
  .read (.mem (.zpx z)) 4 loadY (fun _ => rfl) (fun _ => rfl) (fun _ _ => rfl) (fun _ _ => rfl) loadY_keeps (by decide) (by decide) fun _ => rfl
theorem shape_ldyAbx (a : Word) : ExecShape (.ldyAbx a) :=
  .read (.mem (.abx a)) 4 loadY (fun _ => rfl) (fun _ => rfl) (fun _ _ => rfl) (fun _ _ => rfl) loadY_keeps (by decide) (by decide) fun _ => rfl
theorem shape_staIzx (z : Byte) : ExecShape (.staIzx z) :=
  .store (.izx z) 6 (fun s => s.a) (fun _ => rfl) (fun _ => rfl) (by decide) (by decide) fun _ => rfl
theorem shape_staZp (z : Byte) : ExecShape (.staZp z) :=
  .store (.zp z) 3 (fun s => s.a) (fun _ => rfl) (fun _ => rfl) (by decide) (by decide) fun _ => rfl
theorem shape_staAbs (a : Word) : ExecShape (.staAbs a) :=
  .store (.abs a) 4 (fun s => s.a) (fun _ => rfl) (fun _ => rfl) (by decide) (by decide) fun _ => rfl
theorem shape_staIzy (z : Byte) : ExecShape (.staIzy z) :=
  .store (.izy z) 6 (fun s => s.a) (fun _ => rfl) (fun _ => rfl) (by decide) (by decide) fun _ => rfl
theorem shape_staZpx (z : Byte) : ExecShape (.staZpx z) :=
  .store (.zpx z) 4 (fun s => s.a) (fun _ => rfl) (fun _ => rfl) (by decide) (by decide) fun _ => rfl
theorem shape_staAby (a : Word) : ExecShape (.staAby a) :=
  .store (.aby a) 5 (fun s => s.a) (fun _ => rfl) (fun _ => rfl) (by decide) (by decide) fun _ => rfl
theorem shape_staAbx (a : Word) : ExecShape (.staAbx a) :=
  .store (.abx a) 5 (fun s => s.a) (fun _ => rfl) (fun _ => rfl) (by decide) (by decide) fun _ => rfl
theorem shape_stxZp (z : Byte) : ExecShape (.stxZp z) :=
  .store (.zp z) 3 (fun s => s.x) (fun _ => rfl) (fun _ => rfl) (by decide) (by decide) fun _ => rfl
theorem shape_stxAbs (a : Word) : ExecShape (.stxAbs a) :=
  .store (.abs a) 4 (fun s => s.x) (fun _ => rfl) (fun _ => rfl) (by decide) (by decide) fun _ => rfl
theorem shape_stxZpy (z : Byte) : ExecShape (.stxZpy z) :=
  .store (.zpy z) 4 (fun s => s.x) (fun _ => rfl) (fun _ => rfl) (by decide) (by decide) fun _ => rfl
theorem shape_styZp (z : Byte) : ExecShape (.styZp z) :=
  .store (.zp z) 3 (fun s => s.y) (fun _ => rfl) (fun _ => rfl) (by decide) (by decide) fun _ => rfl
theorem shape_styAbs (a : Word) : ExecShape (.styAbs a) :=
  .store (.abs a) 4 (fun s => s.y) (fun _ => rfl) (fun _ => rfl) (by decide) (by decide) fun _ => rfl
theorem shape_styZpx (z : Byte) : ExecShape (.styZpx z) :=
  .store (.zpx z) 4 (fun s => s.y) (fun _ => rfl) (fun _ => rfl) (by decide) (by decide) fun _ => rfl
theorem shape_tax : ExecShape .tax :=
  implied_shape 2 tax (fun _ => rfl) (fun _ => rfl) (fun _ => rfl) (fun _ => rfl) tax_keeps (by decide) (by decide) fun _ => rfl
theorem shape_tay : ExecShape .tay :=
  implied_shape 2 tay (fun _ => rfl) (fun _ => rfl) (fun _ => rfl) (fun _ => rfl) tay_keeps (by decide) (by decide) fun _ => rfl
theorem shape_txa : ExecShape .txa :=
  implied_shape 2 txa (fun _ => rfl) (fun _ => rfl) (fun _ => rfl) (fun _ => rfl) txa_keeps (by decide) (by decide) fun _ => rfl
theorem shape_tya : ExecShape .tya :=
  implied_shape 2 tya (fun _ => rfl) (fun _ => rfl) (fun _ => rfl) (fun _ => rfl) tya_keeps (by decide) (by decide) fun _ => rfl
theorem shape_tsx : ExecShape .tsx :=
  implied_shape 2 tsx (fun _ => rfl) (fun _ => rfl) (fun _ => rfl) (fun _ => rfl) tsx_keeps (by decide) (by decide) fun _ => rfl
theorem shape_txs : ExecShape .txs :=
  implied_shape 2 txs (fun _ => rfl) (fun _ => rfl) (fun _ => rfl) (fun _ => rfl) txs_keeps (by decide) (by decide) fun _ => rfl
theorem shape_pha : ExecShape .pha := by
  refine .push 3 (fun s => [s.a]) (id) ?_ (fun _ => rfl)
    (fun _ => by simp) (fun _ => rfl) (fun _ => rfl)
    (fun s r hr => by cases r <;> first | rfl | exact absurd List.mem_cons_self hr | exact absurd (List.mem_cons_of_mem _ List.mem_cons_self) hr)
    (by decide) (by decide) fun _ => rfl
  intro s k hk
  have hk : k < 1 := hk
  have : k = 0 ∨ False := by omega
  rcases this with rfl | h
  · rw [stackAddr_sub_zero]; exact List.mem_cons_self
  · exact h.elim
theorem shape_php : ExecShape .php := by
  refine .push 3 (fun s => [pByte true s]) (id) ?_ (fun _ => rfl)
    (fun _ => by simp) (fun _ => rfl) (fun _ => rfl)
    (fun s r hr => by cases r <;> first | rfl | exact absurd List.mem_cons_self hr | exact absurd (List.mem_cons_of_mem _ List.mem_cons_self) hr)
    (by decide) (by decide) fun _ => rfl
  intro s k hk
  have hk : k < 1 := hk
  have : k = 0 ∨ False := by omega
  rcases this with rfl | h
  · rw [stackAddr_sub_zero]; exact List.mem_cons_self
  · exact h.elim
theorem shape_pla : ExecShape .pla :=
  implied_shape 4 pla (fun _ => rfl) (fun _ => rfl) (fun _ => rfl) (fun _ => rfl) pla_keeps (by decide) (by decide) fun _ => rfl
theorem shape_plp : ExecShape .plp :=
  implied_shape 4 plp (fun _ => rfl) (fun _ => rfl) (fun _ => rfl) (fun _ => rfl) plp_keeps (by decide) (by decide) fun _ => rfl
theorem shape_adcIzx (z : Byte) : ExecShape (.adcIzx z) :=
  .read (.mem (.izx z)) 6 adc (fun _ => rfl) (fun _ => rfl) (fun _ _ => rfl) (fun _ _ => rfl) adc_keeps (by decide) (by decide) fun _ => rfl
theorem shape_adcZp (z : Byte) : ExecShape (.adcZp z) :=
  .read (.mem (.zp z)) 3 adc (fun _ => rfl) (fun _ => rfl) (fun _ _ => rfl) (fun _ _ => rfl) adc_keeps (by decide) (by decide) fun _ => rfl
theorem shape_adcImm (v : Byte) : ExecShape (.adcImm v) :=
  .read (.imm v) 2 adc (fun _ => rfl) (fun _ => rfl) (fun _ _ => rfl) (fun _ _ => rfl) adc_keeps (by decide) (by decide) fun _ => rfl
theorem shape_adcAbs (a : Word) : ExecShape (.adcAbs a) :=
  .read (.mem (.abs a)) 4 adc (fun _ => rfl) (fun _ => rfl) (fun _ _ => rfl) (fun _ _ => rfl) adc_keeps (by decide) (by decide) fun _ => rfl
theorem shape_adcIzy (z : Byte) : ExecShape (.adcIzy z) :=
  .read (.mem (.izy z)) 5 adc (fun _ => rfl) (fun _ => rfl) (fun _ _ => rfl) (fun _ _ => rfl) adc_keeps (by decide) (by decide) fun _ => rfl
theorem shape_adcZpx (z : Byte) : ExecShape (.adcZpx z) :=
  .read (.mem (.zpx z)) 4 adc (fun _ => rfl) (fun _ => rfl) (fun _ _ => rfl) (fun _ _ => rfl) adc_keeps (by decide) (by decide) fun _ => rfl
theorem shape_adcAby (a : Word) : ExecShape (.adcAby a) :=
  .read (.mem (.aby a)) 4 adc (fun _ => rfl) (fun _ => rfl) (fun _ _ => rfl) (fun _ _ => rfl) adc_keeps (by decide) (by decide) fun _ => rfl
theorem shape_adcAbx (a : Word) : ExecShape (.adcAbx a) :=
  .read (.mem (.abx a)) 4 adc (fun _ => rfl) (fun _ => rfl) (fun _ _ => rfl) (fun _ _ => rfl) adc_keeps (by decide) (by decide) fun _ => rfl
theorem shape_sbcIzx (z : Byte) : ExecShape (.sbcIzx z) :=
  .read (.mem (.izx z)) 6 sbc (fun _ => rfl) (fun _ => rfl) (fun _ _ => rfl) (fun _ _ => rfl) sbc_keeps (by decide) (by decide) fun _ => rfl
theorem shape_sbcZp (z : Byte) : ExecShape (.sbcZp z) :=
  .read (.mem (.zp z)) 3 sbc (fun _ => rfl) (fun _ => rfl) (fun _ _ => rfl) (fun _ _ => rfl) sbc_keeps (by decide) (by decide) fun _ => rfl
theorem shape_sbcImm (v : Byte) : ExecShape (.sbcImm v) :=
  .read (.imm v) 2 sbc (fun _ => rfl) (fun _ => rfl) (fun _ _ => rfl) (fun _ _ => rfl) sbc_keeps (by decide) (by decide) fun _ => rfl
theorem shape_sbcAbs (a : Word) : ExecShape (.sbcAbs a) :=
  .read (.mem (.abs a)) 4 sbc (fun _ => rfl) (fun _ => rfl) (fun _ _ => rfl) (fun _ _ => rfl) sbc_keeps (by decide) (by decide) fun _ => rfl
theorem shape_sbcIzy (z : Byte) : ExecShape (.sbcIzy z) :=
  .read (.mem (.izy z)) 5 sbc (fun _ => rfl) (fun _ => rfl) (fun _ _ => rfl) (fun _ _ => rfl) sbc_keeps (by decide) (by decide) fun _ => rfl
theorem shape_sbcZpx (z : Byte) : ExecShape (.sbcZpx z) :=
  .read (.mem (.zpx z)) 4 sbc (fun _ => rfl) (fun _ => rfl) (fun _ _ => rfl) (fun _ _ => rfl) sbc_keeps (by decide) (by decide) fun _ => rfl
theorem shape_sbcAby (a : Word) : ExecShape (.sbcAby a) :=
  .read (.mem (.aby a)) 4 sbc (fun _ => rfl) (fun _ => rfl) (fun _ _ => rfl) (fun _ _ => rfl) sbc_keeps (by decide) (by decide) fun _ => rfl
theorem shape_sbcAbx (a : Word) : ExecShape (.sbcAbx a) :=
  .read (.mem (.abx a)) 4 sbc (fun _ => rfl) (fun _ => rfl) (fun _ _ => rfl) (fun _ _ => rfl) sbc_keeps (by decide) (by decide) fun _ => rfl
theorem shape_andIzx (z : Byte) : ExecShape (.andIzx z) :=
  .read (.mem (.izx z)) 6 andA (fun _ => rfl) (fun _ => rfl) (fun _ _ => rfl) (fun _ _ => rfl) andA_keeps (by decide) (by decide) fun _ => rfl
theorem shape_andZp (z : Byte) : ExecShape (.andZp z) :=
  .read (.mem (.zp z)) 3 andA (fun _ => rfl) (fun _ => rfl) (fun _ _ => rfl) (fun _ _ => rfl) andA_keeps (by decide) (by decide) fun _ => rfl
theorem shape_andImm (v : Byte) : ExecShape (.andImm v) :=
  .read (.imm v) 2 andA (fun _ => rfl) (fun _ => rfl) (fun _ _ => rfl) (fun _ _ => rfl) andA_keeps (by decide) (by decide) fun _ => rfl
theorem shape_andAbs (a : Word) : ExecShape (.andAbs a) :=
  .read (.mem (.abs a)) 4 andA (fun _ => rfl) (fun _ => rfl) (fun _ _ => rfl) (fun _ _ => rfl) andA_keeps (by decide) (by decide) fun _ => rfl
theorem shape_andIzy (z : Byte) : ExecShape (.andIzy z) :=
  .read (.mem (.izy z)) 5 andA (fun _ => rfl) (fun _ => rfl) (fun _ _ => rfl) (fun _ _ => rfl) andA_keeps (by decide) (by decide) fun _ => rfl
theorem shape_andZpx (z : Byte) : ExecShape (.andZpx z) :=
  .read (.mem (.zpx z)) 4 andA (fun _ => rfl) (fun _ => rfl) (fun _ _ => rfl) (fun _ _ => rfl) andA_keeps (by decide) (by decide) fun _ => rfl
theorem shape_andAby (a : Word) : ExecShape (.andAby a) :=
  .read (.mem (.aby a)) 4 andA (fun _ => rfl) (fun _ => rfl) (fun _ _ => rfl) (fun _ _ => rfl) andA_keeps (by decide) (by decide) fun _ => rfl
theorem shape_andAbx (a : Word) : ExecShape (.andAbx a) :=
  .read (.mem (.abx a)) 4 andA (fun _ => rfl) (fun _ => rfl) (fun _ _ => rfl) (fun _ _ => rfl) andA_keeps (by decide) (by decide) fun _ => rfl
theorem shape_oraIzx (z : Byte) : ExecShape (.oraIzx z) :=
  .read (.mem (.izx z)) 6 oraA (fun _ => rfl) (fun _ => rfl) (fun _ _ => rfl) (fun _ _ => rfl) oraA_keeps (by decide) (by decide) fun _ => rfl
theorem shape_oraZp (z : Byte) : ExecShape (.oraZp z) :=
  .read (.mem (.zp z)) 3 oraA (fun _ => rfl) (fun _ => rfl) (fun _ _ => rfl) (fun _ _ => rfl) oraA_keeps (by decide) (by decide) fun _ => rfl
theorem shape_oraImm (v : Byte) : ExecShape (.oraImm v) :=
  .read (.imm v) 2 oraA (fun _ => rfl) (fun _ => rfl) (fun _ _ => rfl) (fun _ _ => rfl) oraA_keeps (by decide) (by decide) fun _ => rfl
theorem shape_oraAbs (a : Word) : ExecShape (.oraAbs a) :=
  .read (.mem (.abs a)) 4 oraA (fun _ => rfl) (fun _ => rfl) (fun _ _ => rfl) (fun _ _ => rfl) oraA_keeps (by decide) (by decide) fun _ => rfl
theorem shape_oraIzy (z : Byte) : ExecShape (.oraIzy z) :=
  .read (.mem (.izy z)) 5 oraA (fun _ => rfl) (fun _ => rfl) (fun _ _ => rfl) (fun _ _ => rfl) oraA_keeps (by decide) (by decide) fun _ => rfl
theorem shape_oraZpx (z : Byte) : ExecShape (.oraZpx z) :=
  .read (.mem (.zpx z)) 4 oraA (fun _ => rfl) (fun _ => rfl) (fun _ _ => rfl) (fun _ _ => rfl) oraA_keeps (by decide) (by decide) fun _ => rfl
theorem shape_oraAby (a : Word) : ExecShape (.oraAby a) :=
  .read (.mem (.aby a)) 4 oraA (fun _ => rfl) (fun _ => rfl) (fun _ _ => rfl) (fun _ _ => rfl) oraA_keeps (by decide) (by decide) fun _ => rfl
theorem shape_oraAbx (a : Word) : ExecShape (.oraAbx a) :=
  .read (.mem (.abx a)) 4 oraA (fun _ => rfl) (fun _ => rfl) (fun _ _ => rfl) (fun _ _ => rfl) oraA_keeps (by decide) (by decide) fun _ => rfl
theorem shape_eorIzx (z : Byte) : ExecShape (.eorIzx z) :=
  .read (.mem (.izx z)) 6 eorA (fun _ => rfl) (fun _ => rfl) (fun _ _ => rfl) (fun _ _ => rfl) eorA_keeps (by decide) (by decide) fun _ => rfl
theorem shape_eorZp (z : Byte) : ExecShape (.eorZp z) :=
  .read (.mem (.zp z)) 3 eorA (fun _ => rfl) (fun _ => rfl) (fun _ _ => rfl) (fun _ _ => rfl) eorA_keeps (by decide) (by decide) fun _ => rfl
theorem shape_eorImm (v : Byte) : ExecShape (.eorImm v) :=
  .read (.imm v) 2 eorA (fun _ => rfl) (fun _ => rfl) (fun _ _ => rfl) (fun _ _ => rfl) eorA_keeps (by decide) (by decide) fun _ => rfl
theorem shape_eorAbs (a : Word) : ExecShape (.eorAbs a) :=
  .read (.mem (.abs a)) 4 eorA (fun _ => rfl) (fun _ => rfl) (fun _ _ => rfl) (fun _ _ => rfl) eorA_keeps (by decide) (by decide) fun _ => rfl
theorem shape_eorIzy (z : Byte) : ExecShape (.eorIzy z) :=
  .read (.mem (.izy z)) 5 eorA (fun _ => rfl) (fun _ => rfl) (fun _ _ => rfl) (fun _ _ => rfl) eorA_keeps (by decide) (by decide) fun _ => rfl
theorem shape_eorZpx (z : Byte) : ExecShape (.eorZpx z) :=
  .read (.mem (.zpx z)) 4 eorA (fun _ => rfl) (fun _ => rfl) (fun _ _ => rfl) (fun _ _ => rfl) eorA_keeps (by decide) (by decide) fun _ => rfl
theorem shape_eorAby (a : Word) : ExecShape (.eorAby a) :=
  .read (.mem (.aby a)) 4 eorA (fun _ => rfl) (fun _ => rfl) (fun _ _ => rfl) (fun _ _ => rfl) eorA_keeps (by decide) (by decide) fun _ => rfl
theorem shape_eorAbx (a : Word) : ExecShape (.eorAbx a) :=
  .read (.mem (.abx a)) 4 eorA (fun _ => rfl) (fun _ => rfl) (fun _ _ => rfl) (fun _ _ => rfl) eorA_keeps (by decide) (by decide) fun _ => rfl
theorem shape_bitZp (z : Byte) : ExecShape (.bitZp z) :=
  .read (.mem (.zp z)) 3 bitTest (fun _ => rfl) (fun _ => rfl) (fun _ _ => rfl) (fun _ _ => rfl) bitTest_keeps (by decide) (by decide) fun _ => rfl
theorem shape_bitAbs (a : Word) : ExecShape (.bitAbs a) :=
  .read (.mem (.abs a)) 4 bitTest (fun _ => rfl) (fun _ => rfl) (fun _ _ => rfl) (fun _ _ => rfl) bitTest_keeps (by decide) (by decide) fun _ => rfl
theorem shape_cmpIzx (z : Byte) : ExecShape (.cmpIzx z) :=
  .read (.mem (.izx z)) 6 cmpA (fun _ => rfl) (fun _ => rfl) (fun _ _ => rfl) (fun _ _ => rfl) cmpA_keeps (by decide) (by decide) fun _ => rfl
theorem shape_cmpZp (z : Byte) : ExecShape (.cmpZp z) :=
  .read (.mem (.zp z)) 3 cmpA (fun _ => rfl) (fun _ => rfl) (fun _ _ => rfl) (fun _ _ => rfl) cmpA_keeps (by decide) (by decide) fun _ => rfl
theorem shape_cmpImm (v : Byte) : ExecShape (.cmpImm v) :=
  .read (.imm v) 2 cmpA (fun _ => rfl) (fun _ => rfl) (fun _ _ => rfl) (fun _ _ => rfl) cmpA_keeps (by decide) (by decide) fun _ => rfl
theorem shape_cmpAbs (a : Word) : ExecShape (.cmpAbs a) :=
  .read (.mem (.abs a)) 4 cmpA (fun _ => rfl) (fun _ => rfl) (fun _ _ => rfl) (fun _ _ => rfl) cmpA_keeps (by decide) (by decide) fun _ => rfl
theorem shape_cmpIzy (z : Byte) : ExecShape (.cmpIzy z) :=
  .read (.mem (.izy z)) 5 cmpA (fun _ => rfl) (fun _ => rfl) (fun _ _ => rfl) (fun _ _ => rfl) cmpA_keeps (by decide) (by decide) fun _ => rfl
theorem shape_cmpZpx (z : Byte) : ExecShape (.cmpZpx z) :=
  .read (.mem (.zpx z)) 4 cmpA (fun _ => rfl) (fun _ => rfl) (fun _ _ => rfl) (fun _ _ => rfl) cmpA_keeps (by decide) (by decide) fun _ => rfl
theorem shape_cmpAby (a : Word) : ExecShape (.cmpAby a) :=
  .read (.mem (.aby a)) 4 cmpA (fun _ => rfl) (fun _ => rfl) (fun _ _ => rfl) (fun _ _ => rfl) cmpA_keeps (by decide) (by decide) fun _ => rfl
theorem shape_cmpAbx (a : Word) : ExecShape (.cmpAbx a) :=
  .read (.mem (.abx a)) 4 cmpA (fun _ => rfl) (fun _ => rfl) (fun _ _ => rfl) (fun _ _ => rfl) cmpA_keeps (by decide) (by decide) fun _ => rfl
theorem shape_cpxImm (v : Byte) : ExecShape (.cpxImm v) :=
  .read (.imm v) 2 cmpX (fun _ => rfl) (fun _ => rfl) (fun _ _ => rfl) (fun _ _ => rfl) cmpX_keeps (by decide) (by decide) fun _ => rfl
theorem shape_cpxZp (z : Byte) : ExecShape (.cpxZp z) :=
  .read (.mem (.zp z)) 3 cmpX (fun _ => rfl) (fun _ => rfl) (fun _ _ => rfl) (fun _ _ => rfl) cmpX_keeps (by decide) (by decide) fun _ => rfl
theorem shape_cpxAbs (a : Word) : ExecShape (.cpxAbs a) :=
  .read (.mem (.abs a)) 4 cmpX (fun _ => rfl) (fun _ => rfl) (fun _ _ => rfl) (fun _ _ => rfl) cmpX_keeps (by decide) (by decide) fun _ => rfl
theorem shape_cpyImm (v : Byte) : ExecShape (.cpyImm v) :=
  .read (.imm v) 2 cmpY (fun _ => rfl) (fun _ => rfl) (fun _ _ => rfl) (fun _ _ => rfl) cmpY_keeps (by decide) (by decide) fun _ => rfl
theorem shape_cpyZp (z : Byte) : ExecShape (.cpyZp z) :=
  .read (.mem (.zp z)) 3 cmpY (fun _ => rfl) (fun _ => rfl) (fun _ _ => rfl) (fun _ _ => rfl) cmpY_keeps (by decide) (by decide) fun _ => rfl
theorem shape_cpyAbs (a : Word) : ExecShape (.cpyAbs a) :=
  .read (.mem (.abs a)) 4 cmpY (fun _ => rfl) (fun _ => rfl) (fun _ _ => rfl) (fun _ _ => rfl) cmpY_keeps (by decide) (by decide) fun _ => rfl
theorem shape_incZp (z : Byte) : ExecShape (.incZp z) :=
  .rmw (.zp z) 5 inc8 keepNZ (fun _ => rfl) (fun _ => rfl) (fun _ _ => rfl) (fun _ _ => rfl) keepNZ_keeps (by decide) (by decide) fun _ => rfl
theorem shape_incAbs (a : Word) : ExecShape (.incAbs a) :=
  .rmw (.abs a) 6 inc8 keepNZ (fun _ => rfl) (fun _ => rfl) (fun _ _ => rfl) (fun _ _ => rfl) keepNZ_keeps (by decide) (by decide) fun _ => rfl
theorem shape_incZpx (z : Byte) : ExecShape (.incZpx z) :=
  .rmw (.zpx z) 6 inc8 keepNZ (fun _ => rfl) (fun _ => rfl) (fun _ _ => rfl) (fun _ _ => rfl) keepNZ_keeps (by decide) (by decide) fun _ => rfl
theorem shape_incAbx (a : Word) : ExecShape (.incAbx a) :=
  .rmw (.abx a) 7 inc8 keepNZ (fun _ => rfl) (fun _ => rfl) (fun _ _ => rfl) (fun _ _ => rfl) keepNZ_keeps (by decide) (by decide) fun _ => rfl
theorem shape_decZp (z : Byte) : ExecShape (.decZp z) :=
  .rmw (.zp z) 5 dec8 keepNZ (fun _ => rfl) (fun _ => rfl) (fun _ _ => rfl) (fun _ _ => rfl) keepNZ_keeps (by decide) (by decide) fun _ => rfl
theorem shape_decAbs (a : Word) : ExecShape (.decAbs a) :=
  .rmw (.abs a) 6 dec8 keepNZ (fun _ => rfl) (fun _ => rfl) (fun _ _ => rfl) (fun _ _ => rfl) keepNZ_keeps (by decide) (by decide) fun _ => rfl
theorem shape_decZpx (z : Byte) : ExecShape (.decZpx z) :=
  .rmw (.zpx z) 6 dec8 keepNZ (fun _ => rfl) (fun _ => rfl) (fun _ _ => rfl) (fun _ _ => rfl) keepNZ_keeps (by decide) (by decide) fun _ => rfl
theorem shape_decAbx (a : Word) : ExecShape (.decAbx a) :=
  .rmw (.abx a) 7 dec8 keepNZ (fun _ => rfl) (fun _ => rfl) (fun _ _ => rfl) (fun _ _ => rfl) keepNZ_keeps (by decide) (by decide) fun _ => rfl
theorem shape_inx : ExecShape .inx :=
  implied_shape 2 inx (fun _ => rfl) (fun _ => rfl) (fun _ => rfl) (fun _ => rfl) inx_keeps (by decide) (by decide) fun _ => rfl
theorem shape_iny : ExecShape .iny :=
  implied_shape 2 iny (fun _ => rfl) (fun _ => rfl) (fun _ => rfl) (fun _ => rfl) iny_keeps (by decide) (by decide) fun _ => rfl
theorem shape_dex : ExecShape .dex :=
  implied_shape 2 dex (fun _ => rfl) (fun _ => rfl) (fun _ => rfl) (fun _ => rfl) dex_keeps (by decide) (by decide) fun _ => rfl
theorem shape_dey : ExecShape .dey :=
  implied_shape 2 dey (fun _ => rfl) (fun _ => rfl) (fun _ => rfl) (fun _ => rfl) dey_keeps (by decide) (by decide) fun _ => rfl
theorem shape_aslZp (z : Byte) : ExecShape (.aslZp z) :=
  .rmw (.zp z) 5 asl8 shiftNZC (fun _ => rfl) (fun _ => rfl) (fun _ _ => rfl) (fun _ _ => rfl) shiftNZC_keeps (by decide) (by decide) fun _ => rfl
theorem shape_aslAcc : ExecShape .aslAcc :=
  implied_shape 2 (fun s => shiftNZC (asl8 s.a s.c) { s with a := (asl8 s.a s.c).r }) (fun _ => rfl) (fun _ => rfl) (fun _ => rfl) (fun _ => rfl) (acc_keeps _) (by decide) (by decide) fun _ => rfl
theorem shape_aslAbs (a : Word) : ExecShape (.aslAbs a) :=
  .rmw (.abs a) 6 asl8 shiftNZC (fun _ => rfl) (fun _ => rfl) (fun _ _ => rfl) (fun _ _ => rfl) shiftNZC_keeps (by decide) (by decide) fun _ => rfl
theorem shape_aslZpx (z : Byte) : ExecShape (.aslZpx z) :=
  .rmw (.zpx z) 6 asl8 shiftNZC (fun _ => rfl) (fun _ => rfl) (fun _ _ => rfl) (fun _ _ => rfl) shiftNZC_keeps (by decide) (by decide) fun _ => rfl
theorem shape_aslAbx (a : Word) : ExecShape (.aslAbx a) :=
  .rmw (.abx a) 7 asl8 shiftNZC (fun _ => rfl) (fun _ => rfl) (fun _ _ => rfl) (fun _ _ => rfl) shiftNZC_keeps (by decide) (by decide) fun _ => rfl
theorem shape_lsrZp (z : Byte) : ExecShape (.lsrZp z) :=
  .rmw (.zp z) 5 lsr8 shiftNZC (fun _ => rfl) (fun _ => rfl) (fun _ _ => rfl) (fun _ _ => rfl) shiftNZC_keeps (by decide) (by decide) fun _ => rfl
theorem shape_lsrAcc : ExecShape .lsrAcc :=
  implied_shape 2 (fun s => shiftNZC (lsr8 s.a s.c) { s with a := (lsr8 s.a s.c).r }) (fun _ => rfl) (fun _ => rfl) (fun _ => rfl) (fun _ => rfl) (acc_keeps _) (by decide) (by decide) fun _ => rfl
theorem shape_lsrAbs (a : Word) : ExecShape (.lsrAbs a) :=
  .rmw (.abs a) 6 lsr8 shiftNZC (fun _ => rfl) (fun _ => rfl) (fun _ _ => rfl) (fun _ _ => rfl) shiftNZC_keeps (by decide) (by decide) fun _ => rfl
theorem shape_lsrZpx (z : Byte) : ExecShape (.lsrZpx z) :=
  .rmw (.zpx z) 6 lsr8 shiftNZC (fun _ => rfl) (fun _ => rfl) (fun _ _ => rfl) (fun _ _ => rfl) shiftNZC_keeps (by decide) (by decide) fun _ => rfl
theorem shape_lsrAbx (a : Word) : ExecShape (.lsrAbx a) :=
  .rmw (.abx a) 7 lsr8 shiftNZC (fun _ => rfl) (fun _ => rfl) (fun _ _ => rfl) (fun _ _ => rfl) shiftNZC_keeps (by decide) (by decide) fun _ => rfl
theorem shape_rolZp (z : Byte) : ExecShape (.rolZp z) :=
  .rmw (.zp z) 5 rol8 shiftNZC (fun _ => rfl) (fun _ => rfl) (fun _ _ => rfl) (fun _ _ => rfl) shiftNZC_keeps (by decide) (by decide) fun _ => rfl
theorem shape_rolAcc : ExecShape .rolAcc :=
  implied_shape 2 (fun s => shiftNZC (rol8 s.a s.c) { s with a := (rol8 s.a s.c).r }) (fun _ => rfl) (fun _ => rfl) (fun _ => rfl) (fun _ => rfl) (acc_keeps _) (by decide) (by decide) fun _ => rfl
theorem shape_rolAbs (a : Word) : ExecShape (.rolAbs a) :=
  .rmw (.abs a) 6 rol8 shiftNZC (fun _ => rfl) (fun _ => rfl) (fun _ _ => rfl) (fun _ _ => rfl) shiftNZC_keeps (by decide) (by decide) fun _ => rfl
theorem shape_rolZpx (z : Byte) : ExecShape (.rolZpx z) :=
  .rmw (.zpx z) 6 rol8 shiftNZC (fun _ => rfl) (fun _ => rfl) (fun _ _ => rfl) (fun _ _ => rfl) shiftNZC_keeps (by decide) (by decide) fun _ => rfl
theorem shape_rolAbx (a : Word) : ExecShape (.rolAbx a) :=
  .rmw (.abx a) 7 rol8 shiftNZC (fun _ => rfl) (fun _ => rfl) (fun _ _ => rfl) (fun _ _ => rfl) shiftNZC_keeps (by decide) (by decide) fun _ => rfl
theorem shape_rorZp (z : Byte) : ExecShape (.rorZp z) :=
  .rmw (.zp z) 5 ror8 shiftNZC (fun _ => rfl) (fun _ => rfl) (fun _ _ => rfl) (fun _ _ => rfl) shiftNZC_keeps (by decide) (by decide) fun _ => rfl
theorem shape_rorAcc : ExecShape .rorAcc :=
  implied_shape 2 (fun s => shiftNZC (ror8 s.a s.c) { s with a := (ror8 s.a s.c).r }) (fun _ => rfl) (fun _ => rfl) (fun _ => rfl) (fun _ => rfl) (acc_keeps _) (by decide) (by decide) fun _ => rfl
theorem shape_rorAbs (a : Word) : ExecShape (.rorAbs a) :=
  .rmw (.abs a) 6 ror8 shiftNZC (fun _ => rfl) (fun _ => rfl) (fun _ _ => rfl) (fun _ _ => rfl) shiftNZC_keeps (by decide) (by decide) fun _ => rfl
theorem shape_rorZpx (z : Byte) : ExecShape (.rorZpx z) :=
  .rmw (.zpx z) 6 ror8 shiftNZC (fun _ => rfl) (fun _ => rfl) (fun _ _ => rfl) (fun _ _ => rfl) shiftNZC_keeps (by decide) (by decide) fun _ => rfl
theorem shape_rorAbx (a : Word) : ExecShape (.rorAbx a) :=
  .rmw (.abx a) 7 ror8 shiftNZC (fun _ => rfl) (fun _ => rfl) (fun _ _ => rfl) (fun _ _ => rfl) shiftNZC_keeps (by decide) (by decide) fun _ => rfl
theorem shape_jmpAbs (a : Word) : ExecShape (.jmpAbs a) :=
  implied_shape 3 (fun s => { s with pc := a }) (fun _ => rfl) (fun _ => rfl) (fun _ => rfl) (fun _ => rfl) (fun _ r _ => by cases r <;> rfl) (by decide) (by decide) fun _ => rfl
theorem shape_jmpInd (a : Word) : ExecShape (.jmpInd a) :=
  .jump a (fun _ => rfl) (fun _ => rfl) fun _ => rfl
theorem shape_jsrAbs (a : Word) : ExecShape (.jsrAbs a) := by
  refine .push 6 (fun s => [highByte (s.pc - 1), lowByte (s.pc - 1)]) (fun u => { u with pc := a }) ?_ (fun _ => rfl)
    (fun _ => by simp) (fun _ => rfl) (fun _ => rfl)
    (fun s r hr => by cases r <;> first | rfl | exact absurd List.mem_cons_self hr | exact absurd (List.mem_cons_of_mem _ List.mem_cons_self) hr)
    (by decide) (by decide) fun _ => rfl
  intro s k hk
  have hk : k < 2 := hk
  have : k = 0 ∨ k = 1 ∨ False := by omega
  rcases this with rfl | rfl | h
  · rw [stackAddr_sub_zero]; exact List.mem_cons_self
  · exact List.mem_cons_of_mem _ List.mem_cons_self
  · exact h.elim
theorem shape_rts : ExecShape .rts :=
  implied_shape 6 rts (fun _ => rfl) (fun _ => rfl) (fun _ => rfl) (fun _ => rfl) rts_keeps (by decide) (by decide) fun _ => rfl
theorem shape_rti : ExecShape .rti :=
  implied_shape 6 returnFromInterrupt (fun _ => rfl) (fun _ => rfl) (fun _ => rfl) (fun _ => rfl) returnFromInterrupt_keeps (by decide) (by decide) fun _ => rfl
theorem shape_brk : ExecShape .brk := by
  refine .push 7 (fun s => [highByte (s.pc + 1), lowByte (s.pc + 1), pByte true s]) (fun u => { u with i := true, pc := vectorAt Config.vecIrq u }) ?_ (fun _ => rfl)
    (fun _ => by simp) (fun _ => rfl) (fun _ => rfl)
    (fun s r hr => by cases r <;> first | rfl | exact absurd List.mem_cons_self hr | exact absurd (List.mem_cons_of_mem _ List.mem_cons_self) hr)
    (by decide) (by decide) fun _ => rfl
  intro s k hk
  have hk : k < 3 := hk
  have : k = 0 ∨ k = 1 ∨ k = 2 ∨ False := by omega
  rcases this with rfl | rfl | rfl | h
  · rw [stackAddr_sub_zero]; exact List.mem_cons_self
  · exact List.mem_cons_of_mem _ List.mem_cons_self
  · exact List.mem_cons_of_mem _ (List.mem_cons_of_mem _ List.mem_cons_self)
  · exact h.elim
theorem shape_bpl (off : Int) : ExecShape (.bpl off) :=
  branch_shape (fun s => (!s.n)) off (fun _ => rfl) (fun _ => rfl) fun _ => rfl
theorem shape_bmi (off : Int) : ExecShape (.bmi off) :=
  branch_shape (fun s => s.n) off (fun _ => rfl) (fun _ => rfl) fun _ => rfl
theorem shape_bvc (off : Int) : ExecShape (.bvc off) :=
  branch_shape (fun s => (!s.v)) off (fun _ => rfl) (fun _ => rfl) fun _ => rfl
theorem shape_bvs (off : Int) : ExecShape (.bvs off) :=
  branch_shape (fun s => s.v) off (fun _ => rfl) (fun _ => rfl) fun _ => rfl
theorem shape_bcc (off : Int) : ExecShape (.bcc off) :=
  branch_shape (fun s => (!s.c)) off (fun _ => rfl) (fun _ => rfl) fun _ => rfl
theorem shape_bcs (off : Int) : ExecShape (.bcs off) :=
  branch_shape (fun s => s.c) off (fun _ => rfl) (fun _ => rfl) fun _ => rfl
theorem shape_bne (off : Int) : ExecShape (.bne off) :=
  branch_shape (fun s => (!s.z)) off (fun _ => rfl) (fun _ => rfl) fun _ => rfl
theorem shape_beq (off : Int) : ExecShape (.beq off) :=
  branch_shape (fun s => s.z) off (fun _ => rfl) (fun _ => rfl) fun _ => rfl
theorem shape_clc : ExecShape .clc :=
  implied_shape 2 clc (fun _ => rfl) (fun _ => rfl) (fun _ => rfl) (fun _ => rfl) clc_keeps (by decide) (by decide) fun _ => rfl
theorem shape_sec : ExecShape .sec :=
  implied_shape 2 sec (fun _ => rfl) (fun _ => rfl) (fun _ => rfl) (fun _ => rfl) sec_keeps (by decide) (by decide) fun _ => rfl
theorem shape_cli : ExecShape .cli :=
  implied_shape 2 cli (fun _ => rfl) (fun _ => rfl) (fun _ => rfl) (fun _ => rfl) cli_keeps (by decide) (by decide) fun _ => rfl
theorem shape_sei : ExecShape .sei :=
  implied_shape 2 sei (fun _ => rfl) (fun _ => rfl) (fun _ => rfl) (fun _ => rfl) sei_keeps (by decide) (by decide) fun _ => rfl
theorem shape_clv : ExecShape .clv :=
  implied_shape 2 clv (fun _ => rfl) (fun _ => rfl) (fun _ => rfl) (fun _ => rfl) clv_keeps (by decide) (by decide) fun _ => rfl
theorem shape_cld : ExecShape .cld :=
  implied_shape 2 cld (fun _ => rfl) (fun _ => rfl) (fun _ => rfl) (fun _ => rfl) cld_keeps (by decide) (by decide) fun _ => rfl
theorem shape_sed : ExecShape .sed :=
  implied_shape 2 sed (fun _ => rfl) (fun _ => rfl) (fun _ => rfl) (fun _ => rfl) sed_keeps (by decide) (by decide) fun _ => rfl
theorem shape_nop : ExecShape .nop :=
  implied_shape 2 id (fun _ => rfl) (fun _ => rfl) (fun _ => rfl) (fun _ => rfl) id_keeps (by decide) (by decide) fun _ => rfl
theorem shape_sloIzx (z : Byte) : ExecShape (.sloIzx z) :=
  .rmw (.izx z) 8 asl8 sloA (fun _ => rfl) (fun _ => rfl) (fun _ _ => rfl) (fun _ _ => rfl) sloA_keeps (by decide) (by decide) fun _ => rfl
theorem shape_sloZp (z : Byte) : ExecShape (.sloZp z) :=
  .rmw (.zp z) 5 asl8 sloA (fun _ => rfl) (fun _ => rfl) (fun _ _ => rfl) (fun _ _ => rfl) sloA_keeps (by decide) (by decide) fun _ => rfl
theorem shape_sloAbs (a : Word) : ExecShape (.sloAbs a) :=
  .rmw (.abs a) 6 asl8 sloA (fun _ => rfl) (fun _ => rfl) (fun _ _ => rfl) (fun _ _ => rfl) sloA_keeps (by decide) (by decide) fun _ => rfl
theorem shape_sloIzy (z : Byte) : ExecShape (.sloIzy z) :=
  .rmw (.izy z) 8 asl8 sloA (fun _ => rfl) (fun _ => rfl) (fun _ _ => rfl) (fun _ _ => rfl) sloA_keeps (by decide) (by decide) fun _ => rfl
theorem shape_sloZpx (z : Byte) : ExecShape (.sloZpx z) :=
  .rmw (.zpx z) 6 asl8 sloA (fun _ => rfl) (fun _ => rfl) (fun _ _ => rfl) (fun _ _ => rfl) sloA_keeps (by decide) (by decide) fun _ => rfl
theorem shape_sloAby (a : Word) : ExecShape (.sloAby a) :=
  .rmw (.aby a) 7 asl8 sloA (fun _ => rfl) (fun _ => rfl) (fun _ _ => rfl) (fun _ _ => rfl) sloA_keeps (by decide) (by decide) fun _ => rfl
theorem shape_sloAbx (a : Word) : ExecShape (.sloAbx a) :=
  .rmw (.abx a) 7 asl8 sloA (fun _ => rfl) (fun _ => rfl) (fun _ _ => rfl) (fun _ _ => rfl) sloA_keeps (by decide) (by decide) fun _ => rfl
theorem shape_rlaIzx (z : Byte) : ExecShape (.rlaIzx z) :=
  .rmw (.izx z) 8 rol8 rlaA (fun _ => rfl) (fun _ => rfl) (fun _ _ => rfl) (fun _ _ => rfl) rlaA_keeps (by decide) (by decide) fun _ => rfl
theorem shape_rlaZp (z : Byte) : ExecShape (.rlaZp z) :=
  .rmw (.zp z) 5 rol8 rlaA (fun _ => rfl) (fun _ => rfl) (fun _ _ => rfl) (fun _ _ => rfl) rlaA_keeps (by decide) (by decide) fun _ => rfl
theorem shape_rlaAbs (a : Word) : ExecShape (.rlaAbs a) :=
  .rmw (.abs a) 6 rol8 rlaA (fun _ => rfl) (fun _ => rfl) (fun _ _ => rfl) (fun _ _ => rfl) rlaA_keeps (by decide) (by decide) fun _ => rfl
theorem shape_rlaIzy (z : Byte) : ExecShape (.rlaIzy z) :=
  .rmw (.izy z) 8 rol8 rlaA (fun _ => rfl) (fun _ => rfl) (fun _ _ => rfl) (fun _ _ => rfl) rlaA_keeps (by decide) (by decide) fun _ => rfl
theorem shape_rlaZpx (z : Byte) : ExecShape (.rlaZpx z) :=
  .rmw (.zpx z) 6 rol8 rlaA (fun _ => rfl) (fun _ => rfl) (fun _ _ => rfl) (fun _ _ => rfl) rlaA_keeps (by decide) (by decide) fun _ => rfl
theorem shape_rlaAby (a : Word) : ExecShape (.rlaAby a) :=
  .rmw (.aby a) 7 rol8 rlaA (fun _ => rfl) (fun _ => rfl) (fun _ _ => rfl) (fun _ _ => rfl) rlaA_keeps (by decide) (by decide) fun _ => rfl
theorem shape_rlaAbx (a : Word) : ExecShape (.rlaAbx a) :=
  .rmw (.abx a) 7 rol8 rlaA (fun _ => rfl) (fun _ => rfl) (fun _ _ => rfl) (fun _ _ => rfl) rlaA_keeps (by decide) (by decide) fun _ => rfl
theorem shape_sreIzx (z : Byte) : ExecShape (.sreIzx z) :=
  .rmw (.izx z) 8 lsr8 sreA (fun _ => rfl) (fun _ => rfl) (fun _ _ => rfl) (fun _ _ => rfl) sreA_keeps (by decide) (by decide) fun _ => rfl
theorem shape_sreZp (z : Byte) : ExecShape (.sreZp z) :=
  .rmw (.zp z) 5 lsr8 sreA (fun _ => rfl) (fun _ => rfl) (fun _ _ => rfl) (fun _ _ => rfl) sreA_keeps (by decide) (by decide) fun _ => rfl
theorem shape_sreAbs (a : Word) : ExecShape (.sreAbs a) :=
  .rmw (.abs a) 6 lsr8 sreA (fun _ => rfl) (fun _ => rfl) (fun _ _ => rfl) (fun _ _ => rfl) sreA_keeps (by decide) (by decide) fun _ => rfl
theorem shape_sreIzy (z : Byte) : ExecShape (.sreIzy z) :=
  .rmw (.izy z) 8 lsr8 sreA (fun _ => rfl) (fun _ => rfl) (fun _ _ => rfl) (fun _ _ => rfl) sreA_keeps (by decide) (by decide) fun _ => rfl
theorem shape_sreZpx (z : Byte) : ExecShape (.sreZpx z) :=
  .rmw (.zpx z) 6 lsr8 sreA (fun _ => rfl) (fun _ => rfl) (fun _ _ => rfl) (fun _ _ => rfl) sreA_keeps (by decide) (by decide) fun _ => rfl
theorem shape_sreAby (a : Word) : ExecShape (.sreAby a) :=
  .rmw (.aby a) 7 lsr8 sreA (fun _ => rfl) (fun _ => rfl) (fun _ _ => rfl) (fun _ _ => rfl) sreA_keeps (by decide) (by decide) fun _ => rfl
theorem shape_sreAbx (a : Word) : ExecShape (.sreAbx a) :=
  .rmw (.abx a) 7 lsr8 sreA (fun _ => rfl) (fun _ => rfl) (fun _ _ => rfl) (fun _ _ => rfl) sreA_keeps (by decide) (by decide) fun _ => rfl
theorem shape_rraIzx (z : Byte) : ExecShape (.rraIzx z) :=
  .rmw (.izx z) 8 ror8 rraA (fun _ => rfl) (fun _ => rfl) (fun _ _ => rfl) (fun _ _ => rfl) rraA_keeps (by decide) (by decide) fun _ => rfl
theorem shape_rraZp (z : Byte) : ExecShape (.rraZp z) :=
  .rmw (.zp z) 5 ror8 rraA (fun _ => rfl) (fun _ => rfl) (fun _ _ => rfl) (fun _ _ => rfl) rraA_keeps (by decide) (by decide) fun _ => rfl
theorem shape_rraAbs (a : Word) : ExecShape (.rraAbs a) :=
  .rmw (.abs a) 6 ror8 rraA (fun _ => rfl) (fun _ => rfl) (fun _ _ => rfl) (fun _ _ => rfl) rraA_keeps (by decide) (by decide) fun _ => rfl
theorem shape_rraIzy (z : Byte) : ExecShape (.rraIzy z) :=
  .rmw (.izy z) 8 ror8 rraA (fun _ => rfl) (fun _ => rfl) (fun _ _ => rfl) (fun _ _ => rfl) rraA_keeps (by decide) (by decide) fun _ => rfl
theorem shape_rraZpx (z : Byte) : ExecShape (.rraZpx z) :=
  .rmw (.zpx z) 6 ror8 rraA (fun _ => rfl) (fun _ => rfl) (fun _ _ => rfl) (fun _ _ => rfl) rraA_keeps (by decide) (by decide) fun _ => rfl
theorem shape_rraAby (a : Word) : ExecShape (.rraAby a) :=
  .rmw (.aby a) 7 ror8 rraA (fun _ => rfl) (fun _ => rfl) (fun _ _ => rfl) (fun _ _ => rfl) rraA_keeps (by decide) (by decide) fun _ => rfl
theorem shape_rraAbx (a : Word) : ExecShape (.rraAbx a) :=
  .rmw (.abx a) 7 ror8 rraA (fun _ => rfl) (fun _ => rfl) (fun _ _ => rfl) (fun _ _ => rfl) rraA_keeps (by decide) (by decide) fun _ => rfl
theorem shape_dcpIzx (z : Byte) : ExecShape (.dcpIzx z) :=
  .rmw (.izx z) 8 dec8 dcpA (fun _ => rfl) (fun _ => rfl) (fun _ _ => rfl) (fun _ _ => rfl) dcpA_keeps (by decide) (by decide) fun _ => rfl
theorem shape_dcpZp (z : Byte) : ExecShape (.dcpZp z) :=
  .rmw (.zp z) 5 dec8 dcpA (fun _ => rfl) (fun _ => rfl) (fun _ _ => rfl) (fun _ _ => rfl) dcpA_keeps (by decide) (by decide) fun _ => rfl
theorem shape_dcpAbs (a : Word) : ExecShape (.dcpAbs a) :=
  .rmw (.abs a) 6 dec8 dcpA (fun _ => rfl) (fun _ => rfl) (fun _ _ => rfl) (fun _ _ => rfl) dcpA_keeps (by decide) (by decide) fun _ => rfl
theorem shape_dcpIzy (z : Byte) : ExecShape (.dcpIzy z) :=
  .rmw (.izy z) 8 dec8 dcpA (fun _ => rfl) (fun _ => rfl) (fun _ _ => rfl) (fun _ _ => rfl) dcpA_keeps (by decide) (by decide) fun _ => rfl
theorem shape_dcpZpx (z : Byte) : ExecShape (.dcpZpx z) :=
  .rmw (.zpx z) 6 dec8 dcpA (fun _ => rfl) (fun _ => rfl) (fun _ _ => rfl) (fun _ _ => rfl) dcpA_keeps (by decide) (by decide) fun _ => rfl
theorem shape_dcpAby (a : Word) : ExecShape (.dcpAby a) :=
  .rmw (.aby a) 7 dec8 dcpA (fun _ => rfl) (fun _ => rfl) (fun _ _ => rfl) (fun _ _ => rfl) dcpA_keeps (by decide) (by decide) fun _ => rfl
theorem shape_dcpAbx (a : Word) : ExecShape (.dcpAbx a) :=
  .rmw (.abx a) 7 dec8 dcpA (fun _ => rfl) (fun _ => rfl) (fun _ _ => rfl) (fun _ _ => rfl) dcpA_keeps (by decide) (by decide) fun _ => rfl
theorem shape_iscIzx (z : Byte) : ExecShape (.iscIzx z) :=
  .rmw (.izx z) 8 inc8 iscA (fun _ => rfl) (fun _ => rfl) (fun _ _ => rfl) (fun _ _ => rfl) iscA_keeps (by decide) (by decide) fun _ => rfl
theorem shape_iscZp (z : Byte) : ExecShape (.iscZp z) :=
  .rmw (.zp z) 5 inc8 iscA (fun _ => rfl) (fun _ => rfl) (fun _ _ => rfl) (fun _ _ => rfl) iscA_keeps (by decide) (by decide) fun _ => rfl
theorem shape_iscAbs (a : Word) : ExecShape (.iscAbs a) :=
  .rmw (.abs a) 6 inc8 iscA (fun _ => rfl) (fun _ => rfl) (fun _ _ => rfl) (fun _ _ => rfl) iscA_keeps (by decide) (by decide) fun _ => rfl
theorem shape_iscIzy (z : Byte) : ExecShape (.iscIzy z) :=
  .rmw (.izy z) 8 inc8 iscA (fun _ => rfl) (fun _ => rfl) (fun _ _ => rfl) (fun _ _ => rfl) iscA_keeps (by decide) (by decide) fun _ => rfl
theorem shape_iscZpx (z : Byte) : ExecShape (.iscZpx z) :=
  .rmw (.zpx z) 6 inc8 iscA (fun _ => rfl) (fun _ => rfl) (fun _ _ => rfl) (fun _ _ => rfl) iscA_keeps (by decide) (by decide) fun _ => rfl
theorem shape_iscAby (a : Word) : ExecShape (.iscAby a) :=
  .rmw (.aby a) 7 inc8 iscA (fun _ => rfl) (fun _ => rfl) (fun _ _ => rfl) (fun _ _ => rfl) iscA_keeps (by decide) (by decide) fun _ => rfl
theorem shape_iscAbx (a : Word) : ExecShape (.iscAbx a) :=
  .rmw (.abx a) 7 inc8 iscA (fun _ => rfl) (fun _ => rfl) (fun _ _ => rfl) (fun _ _ => rfl) iscA_keeps (by decide) (by decide) fun _ => rfl
theorem shape_saxIzx (z : Byte) : ExecShape (.saxIzx z) :=
  .store (.izx z) 6 (fun s => (s.a &&& s.x)) (fun _ => rfl) (fun _ => rfl) (by decide) (by decide) fun _ => rfl
theorem shape_saxZp (z : Byte) : ExecShape (.saxZp z) :=
  .store (.zp z) 3 (fun s => (s.a &&& s.x)) (fun _ => rfl) (fun _ => rfl) (by decide) (by decide) fun _ => rfl
theorem shape_saxAbs (a : Word) : ExecShape (.saxAbs a) :=
  .store (.abs a) 4 (fun s => (s.a &&& s.x)) (fun _ => rfl) (fun _ => rfl) (by decide) (by decide) fun _ => rfl
theorem shape_saxZpy (z : Byte) : ExecShape (.saxZpy z) :=
  .store (.zpy z) 4 (fun s => (s.a &&& s.x)) (fun _ => rfl) (fun _ => rfl) (by decide) (by decide) fun _ => rfl
theorem shape_laxIzx (z : Byte) : ExecShape (.laxIzx z) :=
  .read (.mem (.izx z)) 6 loadAX (fun _ => rfl) (fun _ => rfl) (fun _ _ => rfl) (fun _ _ => rfl) loadAX_keeps (by decide) (by decide) fun _ => rfl
theorem shape_laxZp (z : Byte) : ExecShape (.laxZp z) :=
  .read (.mem (.zp z)) 3 loadAX (fun _ => rfl) (fun _ => rfl) (fun _ _ => rfl) (fun _ _ => rfl) loadAX_keeps (by decide) (by decide) fun _ => rfl
theorem shape_laxAbs (a : Word) : ExecShape (.laxAbs a) :=
  .read (.mem (.abs a)) 4 loadAX (fun _ => rfl) (fun _ => rfl) (fun _ _ => rfl) (fun _ _ => rfl) loadAX_keeps (by decide) (by decide) fun _ => rfl
theorem shape_laxIzy (z : Byte) : ExecShape (.laxIzy z) :=
  .read (.mem (.izy z)) 5 loadAX (fun _ => rfl) (fun _ => rfl) (fun _ _ => rfl) (fun _ _ => rfl) loadAX_keeps (by decide) (by decide) fun _ => rfl
theorem shape_laxZpy (z : Byte) : ExecShape (.laxZpy z) :=
  .read (.mem (.zpy z)) 4 loadAX (fun _ => rfl) (fun _ => rfl) (fun _ _ => rfl) (fun _ _ => rfl) loadAX_keeps (by decide) (by decide) fun _ => rfl
theorem shape_laxAby (a : Word) : ExecShape (.laxAby a) :=
  .read (.mem (.aby a)) 4 loadAX (fun _ => rfl) (fun _ => rfl) (fun _ _ => rfl) (fun _ _ => rfl) loadAX_keeps (by decide) (by decide) fun _ => rfl
theorem shape_ancImm0B (v : Byte) : ExecShape (.ancImm0B v) :=
  .read (.imm v) 2 anc (fun _ => rfl) (fun _ => rfl) (fun _ _ => rfl) (fun _ _ => rfl) anc_keeps (by decide) (by decide) fun _ => rfl
theorem shape_ancImm2B (v : Byte) : ExecShape (.ancImm2B v) :=
  .read (.imm v) 2 anc (fun _ => rfl) (fun _ => rfl) (fun _ _ => rfl) (fun _ _ => rfl) anc_keeps (by decide) (by decide) fun _ => rfl
theorem shape_alrImm (v : Byte) : ExecShape (.alrImm v) :=
  .read (.imm v) 2 alr (fun _ => rfl) (fun _ => rfl) (fun _ _ => rfl) (fun _ _ => rfl) alr_keeps (by decide) (by decide) fun _ => rfl
theorem shape_arrImm (v : Byte) : ExecShape (.arrImm v) :=
  .read (.imm v) 2 arr (fun _ => rfl) (fun _ => rfl) (fun _ _ => rfl) (fun _ _ => rfl) arr_keeps (by decide) (by decide) fun _ => rfl
theorem shape_sbxImm (v : Byte) : ExecShape (.sbxImm v) :=
  .read (.imm v) 2 sbx (fun _ => rfl) (fun _ => rfl) (fun _ _ => rfl) (fun _ _ => rfl) sbx_keeps (by decide) (by decide) fun _ => rfl
theorem shape_sbcImmEB (v : Byte) : ExecShape (.sbcImmEB v) :=
  .read (.imm v) 2 sbc (fun _ => rfl) (fun _ => rfl) (fun _ _ => rfl) (fun _ _ => rfl) sbc_keeps (by decide) (by decide) fun _ => rfl
theorem shape_nopZp04 (z : Byte) : ExecShape (.nopZp04 z) :=
  .read (.mem (.zp z)) 3 nopRead (fun _ => rfl) (fun _ => rfl) (fun _ _ => rfl) (fun _ _ => rfl) nopRead_keeps (by decide) (by decide) fun _ => rfl
theorem shape_nopAbs0C (a : Word) : ExecShape (.nopAbs0C a) :=
  .read (.mem (.abs a)) 4 nopRead (fun _ => rfl) (fun _ => rfl) (fun _ _ => rfl) (fun _ _ => rfl) nopRead_keeps (by decide) (by decide) fun _ => rfl
theorem shape_nopZpx14 (z : Byte) : ExecShape (.nopZpx14 z) :=
  .read (.mem (.zpx z)) 4 nopRead (fun _ => rfl) (fun _ => rfl) (fun _ _ => rfl) (fun _ _ => rfl) nopRead_keeps (by decide) (by decide) fun _ => rfl
theorem shape_nopImp1A : ExecShape .nopImp1A :=
  implied_shape 2 id (fun _ => rfl) (fun _ => rfl) (fun _ => rfl) (fun _ => rfl) id_keeps (by decide) (by decide) fun _ => rfl
theorem shape_nopAbx1C (a : Word) : ExecShape (.nopAbx1C a) :=
  .read (.mem (.abx a)) 4 nopRead (fun _ => rfl) (fun _ => rfl) (fun _ _ => rfl) (fun _ _ => rfl) nopRead_keeps (by decide) (by decide) fun _ => rfl
theorem shape_nopZpx34 (z : Byte) : ExecShape (.nopZpx34 z) :=
  .read (.mem (.zpx z)) 4 nopRead (fun _ => rfl) (fun _ => rfl) (fun _ _ => rfl) (fun _ _ => rfl) nopRead_keeps (by decide) (by decide) fun _ => rfl
theorem shape_nopImp3A : ExecShape .nopImp3A :=
  implied_shape 2 id (fun _ => rfl) (fun _ => rfl) (fun _ => rfl) (fun _ => rfl) id_keeps (by decide) (by decide) fun _ => rfl
theorem shape_nopAbx3C (a : Word) : ExecShape (.nopAbx3C a) :=
  .read (.mem (.abx a)) 4 nopRead (fun _ => rfl) (fun _ => rfl) (fun _ _ => rfl) (fun _ _ => rfl) nopRead_keeps (by decide) (by decide) fun _ => rfl
theorem shape_nopZp44 (z : Byte) : ExecShape (.nopZp44 z) :=
  .read (.mem (.zp z)) 3 nopRead (fun _ => rfl) (fun _ => rfl) (fun _ _ => rfl) (fun _ _ => rfl) nopRead_keeps (by decide) (by decide) fun _ => rfl
theorem shape_nopZpx54 (z : Byte) : ExecShape (.nopZpx54 z) :=
  .read (.mem (.zpx z)) 4 nopRead (fun _ => rfl) (fun _ => rfl) (fun _ _ => rfl) (fun _ _ => rfl) nopRead_keeps (by decide) (by decide) fun _ => rfl
theorem shape_nopImp5A : ExecShape .nopImp5A :=
  implied_shape 2 id (fun _ => rfl) (fun _ => rfl) (fun _ => rfl) (fun _ => rfl) id_keeps (by decide) (by decide) fun _ => rfl
theorem shape_nopAbx5C (a : Word) : ExecShape (.nopAbx5C a) :=
  .read (.mem (.abx a)) 4 nopRead (fun _ => rfl) (fun _ => rfl) (fun _ _ => rfl) (fun _ _ => rfl) nopRead_keeps (by decide) (by decide) fun _ => rfl
theorem shape_nopZp64 (z : Byte) : ExecShape (.nopZp64 z) :=
  .read (.mem (.zp z)) 3 nopRead (fun _ => rfl) (fun _ => rfl) (fun _ _ => rfl) (fun _ _ => rfl) nopRead_keeps (by decide) (by decide) fun _ => rfl
theorem shape_nopZpx74 (z : Byte) : ExecShape (.nopZpx74 z) :=
  .read (.mem (.zpx z)) 4 nopRead (fun _ => rfl) (fun _ => rfl) (fun _ _ => rfl) (fun _ _ => rfl) nopRead_keeps (by decide) (by decide) fun _ => rfl
theorem shape_nopImp7A : ExecShape .nopImp7A :=
  implied_shape 2 id (fun _ => rfl) (fun _ => rfl) (fun _ => rfl) (fun _ => rfl) id_keeps (by decide) (by decide) fun _ => rfl
theorem shape_nopAbx7C (a : Word) : ExecShape (.nopAbx7C a) :=
  .read (.mem (.abx a)) 4 nopRead (fun _ => rfl) (fun _ => rfl) (fun _ _ => rfl) (fun _ _ => rfl) nopRead_keeps (by decide) (by decide) fun _ => rfl
theorem shape_nopImm80 (v : Byte) : ExecShape (.nopImm80 v) :=
  .read (.imm v) 2 nopRead (fun _ => rfl) (fun _ => rfl) (fun _ _ => rfl) (fun _ _ => rfl) nopRead_keeps (by decide) (by decide) fun _ => rfl
theorem shape_nopImm82 (v : Byte) : ExecShape (.nopImm82 v) :=
  .read (.imm v) 2 nopRead (fun _ => rfl) (fun _ => rfl) (fun _ _ => rfl) (fun _ _ => rfl) nopRead_keeps (by decide) (by decide) fun _ => rfl
theorem shape_nopImm89 (v : Byte) : ExecShape (.nopImm89 v) :=
  .read (.imm v) 2 nopRead (fun _ => rfl) (fun _ => rfl) (fun _ _ => rfl) (fun _ _ => rfl) nopRead_keeps (by decide) (by decide) fun _ => rfl
theorem shape_nopImmC2 (v : Byte) : ExecShape (.nopImmC2 v) :=
  .read (.imm v) 2 nopRead (fun _ => rfl) (fun _ => rfl) (fun _ _ => rfl) (fun _ _ => rfl) nopRead_keeps (by decide) (by decide) fun _ => rfl
theorem shape_nopZpxD4 (z : Byte) : ExecShape (.nopZpxD4 z) :=
  .read (.mem (.zpx z)) 4 nopRead (fun _ => rfl) (fun _ => rfl) (fun _ _ => rfl) (fun _ _ => rfl) nopRead_keeps (by decide) (by decide) fun _ => rfl
theorem shape_nopImpDA : ExecShape .nopImpDA :=
  implied_shape 2 id (fun _ => rfl) (fun _ => rfl) (fun _ => rfl) (fun _ => rfl) id_keeps (by decide) (by decide) fun _ => rfl
theorem shape_nopAbxDC (a : Word) : ExecShape (.nopAbxDC a) :=
  .read (.mem (.abx a)) 4 nopRead (fun _ => rfl) (fun _ => rfl) (fun _ _ => rfl) (fun _ _ => rfl) nopRead_keeps (by decide) (by decide) fun _ => rfl
theorem shape_nopImmE2 (v : Byte) : ExecShape (.nopImmE2 v) :=
  .read (.imm v) 2 nopRead (fun _ => rfl) (fun _ => rfl) (fun _ _ => rfl) (fun _ _ => rfl) nopRead_keeps (by decide) (by decide) fun _ => rfl
theorem shape_nopZpxF4 (z : Byte) : ExecShape (.nopZpxF4 z) :=
  .read (.mem (.zpx z)) 4 nopRead (fun _ => rfl) (fun _ => rfl) (fun _ _ => rfl) (fun _ _ => rfl) nopRead_keeps (by decide) (by decide) fun _ => rfl
theorem shape_nopImpFA : ExecShape .nopImpFA :=
  implied_shape 2 id (fun _ => rfl) (fun _ => rfl) (fun _ => rfl) (fun _ => rfl) id_keeps (by decide) (by decide) fun _ => rfl
theorem shape_nopAbxFC (a : Word) : ExecShape (.nopAbxFC a) :=
  .read (.mem (.abx a)) 4 nopRead (fun _ => rfl) (fun _ => rfl) (fun _ _ => rfl) (fun _ _ => rfl) nopRead_keeps (by decide) (by decide) fun _ => rfl
theorem shape_jam02 : ExecShape .jam02 :=
  .stop 0x02 (by decide) fun _ => rfl
theorem shape_jam12 : ExecShape .jam12 :=
  .stop 0x12 (by decide) fun _ => rfl
theorem shape_jam22 : ExecShape .jam22 :=
  .stop 0x22 (by decide) fun _ => rfl
theorem shape_jam32 : ExecShape .jam32 :=
  .stop 0x32 (by decide) fun _ => rfl
theorem shape_jam42 : ExecShape .jam42 :=
  .stop 0x42 (by decide) fun _ => rfl
theorem shape_jam52 : ExecShape .jam52 :=
  .stop 0x52 (by decide) fun _ => rfl
theorem shape_jam62 : ExecShape .jam62 :=
  .stop 0x62 (by decide) fun _ => rfl
theorem shape_jam72 : ExecShape .jam72 :=
  .stop 0x72 (by decide) fun _ => rfl
theorem shape_jam92 : ExecShape .jam92 :=
  .stop 0x92 (by decide) fun _ => rfl
theorem shape_jamB2 : ExecShape .jamB2 :=
  .stop 0xB2 (by decide) fun _ => rfl
theorem shape_jamD2 : ExecShape .jamD2 :=
  .stop 0xD2 (by decide) fun _ => rfl
theorem shape_jamF2 : ExecShape .jamF2 :=
  .stop 0xF2 (by decide) fun _ => rfl
theorem shape_aneImm : ExecShape .aneImm :=
  .stop 0x8B (by decide) fun _ => rfl
theorem shape_lxaImm : ExecShape .lxaImm :=
  .stop 0xAB (by decide) fun _ => rfl
theorem shape_shaIzy : ExecShape .shaIzy :=
  .stop 0x93 (by decide) fun _ => rfl
theorem shape_shaAby : ExecShape .shaAby :=
  .stop 0x9F (by decide) fun _ => rfl
theorem shape_shxAby : ExecShape .shxAby :=
  .stop 0x9E (by decide) fun _ => rfl
theorem shape_shyAbx : ExecShape .shyAbx :=
  .stop 0x9C (by decide) fun _ => rfl
theorem shape_tasAby : ExecShape .tasAby :=
  .stop 0x9B (by decide) fun _ => rfl
theorem shape_lasAby : ExecShape .lasAby :=
  .stop 0xBB (by decide) fun _ => rfl

/-- Every instruction has its shape. -/
theorem exec_shape (i : Instr) : ExecShape i := by
  cases i with
  | ldaIzx z => exact shape_ldaIzx z
  | ldaZp z => exact shape_ldaZp z
  | ldaImm v => exact shape_ldaImm v
  | ldaAbs a => exact shape_ldaAbs a
  | ldaIzy z => exact shape_ldaIzy z
  | ldaZpx z => exact shape_ldaZpx z
  | ldaAby a => exact shape_ldaAby a
  | ldaAbx a => exact shape_ldaAbx a
  | ldxImm v => exact shape_ldxImm v
  | ldxZp z => exact shape_ldxZp z
  | ldxAbs a => exact shape_ldxAbs a
  | ldxZpy z => exact shape_ldxZpy z
  | ldxAby a => exact shape_ldxAby a
  | ldyImm v => exact shape_ldyImm v
  | ldyZp z => exact shape_ldyZp z
  | ldyAbs a => exact shape_ldyAbs a
  | ldyZpx z => exact shape_ldyZpx z
  | ldyAbx a => exact shape_ldyAbx a
  | staIzx z => exact shape_staIzx z
  | staZp z => exact shape_staZp z
  | staAbs a => exact shape_staAbs a
  | staIzy z => exact shape_staIzy z
  | staZpx z => exact shape_staZpx z
  | staAby a => exact shape_staAby a
  | staAbx a => exact shape_staAbx a
  | stxZp z => exact shape_stxZp z
  | stxAbs a => exact shape_stxAbs a
  | stxZpy z => exact shape_stxZpy z
  | styZp z => exact shape_styZp z
  | styAbs a => exact shape_styAbs a
  | styZpx z => exact shape_styZpx z
  | tax => exact shape_tax
  | tay => exact shape_tay
  | txa => exact shape_txa
  | tya => exact shape_tya
  | tsx => exact shape_tsx
  | txs => exact shape_txs
  | pha => exact shape_pha
  | php => exact shape_php
  | pla => exact shape_pla
  | plp => exact shape_plp
  | adcIzx z => exact shape_adcIzx z
  | adcZp z => exact shape_adcZp z
  | adcImm v => exact shape_adcImm v
  | adcAbs a => exact shape_adcAbs a
  | adcIzy z => exact shape_adcIzy z
  | adcZpx z => exact shape_adcZpx z
  | adcAby a => exact shape_adcAby a
  | adcAbx a => exact shape_adcAbx a
  | sbcIzx z => exact shape_sbcIzx z
  | sbcZp z => exact shape_sbcZp z
  | sbcImm v => exact shape_sbcImm v
  | sbcAbs a => exact shape_sbcAbs a
  | sbcIzy z => exact shape_sbcIzy z
  | sbcZpx z => exact shape_sbcZpx z
  | sbcAby a => exact shape_sbcAby a
  | sbcAbx a => exact shape_sbcAbx a
  | andIzx z => exact shape_andIzx z
  | andZp z => exact shape_andZp z
  | andImm v => exact shape_andImm v
  | andAbs a => exact shape_andAbs a
  | andIzy z => exact shape_andIzy z
  | andZpx z => exact shape_andZpx z
  | andAby a => exact shape_andAby a
  | andAbx a => exact shape_andAbx a
  | oraIzx z => exact shape_oraIzx z
  | oraZp z => exact shape_oraZp z
  | oraImm v => exact shape_oraImm v
  | oraAbs a => exact shape_oraAbs a
  | oraIzy z => exact shape_oraIzy z
  | oraZpx z => exact shape_oraZpx z
  | oraAby a => exact shape_oraAby a
  | oraAbx a => exact shape_oraAbx a
  | eorIzx z => exact shape_eorIzx z
  | eorZp z => exact shape_eorZp z
  | eorImm v => exact shape_eorImm v
  | eorAbs a => exact shape_eorAbs a
  | eorIzy z => exact shape_eorIzy z
  | eorZpx z => exact shape_eorZpx z
  | eorAby a => exact shape_eorAby a
  | eorAbx a => exact shape_eorAbx a
  | bitZp z => exact shape_bitZp z
  | bitAbs a => exact shape_bitAbs a
  | cmpIzx z => exact shape_cmpIzx z
  | cmpZp z => exact shape_cmpZp z
  | cmpImm v => exact shape_cmpImm v
  | cmpAbs a => exact shape_cmpAbs a
  | cmpIzy z => exact shape_cmpIzy z
  | cmpZpx z => exact shape_cmpZpx z
  | cmpAby a => exact shape_cmpAby a
  | cmpAbx a => exact shape_cmpAbx a
  | cpxImm v => exact shape_cpxImm v
  | cpxZp z => exact shape_cpxZp z
  | cpxAbs a => exact shape_cpxAbs a
  | cpyImm v => exact shape_cpyImm v
  | cpyZp z => exact shape_cpyZp z
  | cpyAbs a => exact shape_cpyAbs a
  | incZp z => exact shape_incZp z
  | incAbs a => exact shape_incAbs a
  | incZpx z => exact shape_incZpx z
  | incAbx a => exact shape_incAbx a
  | decZp z => exact shape_decZp z
  | decAbs a => exact shape_decAbs a
  | decZpx z => exact shape_decZpx z
  | decAbx a => exact shape_decAbx a
  | inx => exact shape_inx
  | iny => exact shape_iny
  | dex => exact shape_dex
  | dey => exact shape_dey
  | aslZp z => exact shape_aslZp z
  | aslAcc => exact shape_aslAcc
  | aslAbs a => exact shape_aslAbs a
  | aslZpx z => exact shape_aslZpx z
  | aslAbx a => exact shape_aslAbx a
  | lsrZp z => exact shape_lsrZp z
  | lsrAcc => exact shape_lsrAcc
  | lsrAbs a => exact shape_lsrAbs a
  | lsrZpx z => exact shape_lsrZpx z
  | lsrAbx a => exact shape_lsrAbx a
  | rolZp z => exact shape_rolZp z
  | rolAcc => exact shape_rolAcc
  | rolAbs a => exact shape_rolAbs a
  | rolZpx z => exact shape_rolZpx z
  | rolAbx a => exact shape_rolAbx a
  | rorZp z => exact shape_rorZp z
  | rorAcc => exact shape_rorAcc
  | rorAbs a => exact shape_rorAbs a
  | rorZpx z => exact shape_rorZpx z
  | rorAbx a => exact shape_rorAbx a
  | jmpAbs a => exact shape_jmpAbs a
  | jmpInd a => exact shape_jmpInd a
  | jsrAbs a => exact shape_jsrAbs a
  | rts => exact shape_rts
  | rti => exact shape_rti
  | brk => exact shape_brk
  | bpl off => exact shape_bpl off
  | bmi off => exact shape_bmi off
  | bvc off => exact shape_bvc off
  | bvs off => exact shape_bvs off
  | bcc off => exact shape_bcc off
  | bcs off => exact shape_bcs off
  | bne off => exact shape_bne off
  | beq off => exact shape_beq off
  | clc => exact shape_clc
  | sec => exact shape_sec
  | cli => exact shape_cli
  | sei => exact shape_sei
  | clv => exact shape_clv
  | cld => exact shape_cld
  | sed => exact shape_sed
  | nop => exact shape_nop
  | sloIzx z => exact shape_sloIzx z
  | sloZp z => exact shape_sloZp z
  | sloAbs a => exact shape_sloAbs a
  | sloIzy z => exact shape_sloIzy z
  | sloZpx z => exact shape_sloZpx z
  | sloAby a => exact shape_sloAby a
  | sloAbx a => exact shape_sloAbx a
  | rlaIzx z => exact shape_rlaIzx z
  | rlaZp z => exact shape_rlaZp z
  | rlaAbs a => exact shape_rlaAbs a
  | rlaIzy z => exact shape_rlaIzy z
  | rlaZpx z => exact shape_rlaZpx z
  | rlaAby a => exact shape_rlaAby a
  | rlaAbx a => exact shape_rlaAbx a
  | sreIzx z => exact shape_sreIzx z
  | sreZp z => exact shape_sreZp z
  | sreAbs a => exact shape_sreAbs a
  | sreIzy z => exact shape_sreIzy z
  | sreZpx z => exact shape_sreZpx z
  | sreAby a => exact shape_sreAby a
  | sreAbx a => exact shape_sreAbx a
  | rraIzx z => exact shape_rraIzx z
  | rraZp z => exact shape_rraZp z
  | rraAbs a => exact shape_rraAbs a
  | rraIzy z => exact shape_rraIzy z
  | rraZpx z => exact shape_rraZpx z
  | rraAby a => exact shape_rraAby a
  | rraAbx a => exact shape_rraAbx a
  | dcpIzx z => exact shape_dcpIzx z
  | dcpZp z => exact shape_dcpZp z
  | dcpAbs a => exact shape_dcpAbs a
  | dcpIzy z => exact shape_dcpIzy z
  | dcpZpx z => exact shape_dcpZpx z
  | dcpAby a => exact shape_dcpAby a
  | dcpAbx a => exact shape_dcpAbx a
  | iscIzx z => exact shape_iscIzx z
  | iscZp z => exact shape_iscZp z
  | iscAbs a => exact shape_iscAbs a
  | iscIzy z => exact shape_iscIzy z
  | iscZpx z => exact shape_iscZpx z
  | iscAby a => exact shape_iscAby a
  | iscAbx a => exact shape_iscAbx a
  | saxIzx z => exact shape_saxIzx z
  | saxZp z => exact shape_saxZp z
  | saxAbs a => exact shape_saxAbs a
  | saxZpy z => exact shape_saxZpy z
  | laxIzx z => exact shape_laxIzx z
  | laxZp z => exact shape_laxZp z
  | laxAbs a => exact shape_laxAbs a
  | laxIzy z => exact shape_laxIzy z
  | laxZpy z => exact shape_laxZpy z
  | laxAby a => exact shape_laxAby a
  | ancImm0B v => exact shape_ancImm0B v
  | ancImm2B v => exact shape_ancImm2B v
  | alrImm v => exact shape_alrImm v
  | arrImm v => exact shape_arrImm v
  | sbxImm v => exact shape_sbxImm v
  | sbcImmEB v => exact shape_sbcImmEB v
  | nopZp04 z => exact shape_nopZp04 z
  | nopAbs0C a => exact shape_nopAbs0C a
  | nopZpx14 z => exact shape_nopZpx14 z
  | nopImp1A => exact shape_nopImp1A
  | nopAbx1C a => exact shape_nopAbx1C a
  | nopZpx34 z => exact shape_nopZpx34 z
  | nopImp3A => exact shape_nopImp3A
  | nopAbx3C a => exact shape_nopAbx3C a
  | nopZp44 z => exact shape_nopZp44 z
  | nopZpx54 z => exact shape_nopZpx54 z
  | nopImp5A => exact shape_nopImp5A
  | nopAbx5C a => exact shape_nopAbx5C a
  | nopZp64 z => exact shape_nopZp64 z
  | nopZpx74 z => exact shape_nopZpx74 z
  | nopImp7A => exact shape_nopImp7A
  | nopAbx7C a => exact shape_nopAbx7C a
  | nopImm80 v => exact shape_nopImm80 v
  | nopImm82 v => exact shape_nopImm82 v
  | nopImm89 v => exact shape_nopImm89 v
  | nopImmC2 v => exact shape_nopImmC2 v
  | nopZpxD4 z => exact shape_nopZpxD4 z
  | nopImpDA => exact shape_nopImpDA
  | nopAbxDC a => exact shape_nopAbxDC a
  | nopImmE2 v => exact shape_nopImmE2 v
  | nopZpxF4 z => exact shape_nopZpxF4 z
  | nopImpFA => exact shape_nopImpFA
  | nopAbxFC a => exact shape_nopAbxFC a
  | jam02 => exact shape_jam02
  | jam12 => exact shape_jam12
  | jam22 => exact shape_jam22
  | jam32 => exact shape_jam32
  | jam42 => exact shape_jam42
  | jam52 => exact shape_jam52
  | jam62 => exact shape_jam62
  | jam72 => exact shape_jam72
  | jam92 => exact shape_jam92
  | jamB2 => exact shape_jamB2
  | jamD2 => exact shape_jamD2
  | jamF2 => exact shape_jamF2
  | aneImm => exact shape_aneImm
  | lxaImm => exact shape_lxaImm
  | shaIzy => exact shape_shaIzy
  | shaAby => exact shape_shaAby
  | shxAby => exact shape_shxAby
  | shyAbx => exact shape_shyAbx
  | tasAby => exact shape_tasAby
  | lasAby => exact shape_lasAby

end Sys2Proof.Machine
end

