-- ==== Sys2Proof/Laws/Frame.lean ====
section
/-! SUPPORT. What each shape of instruction leaves alone, and what it costs: the pieces of the frames. -/

namespace Sys2Proof.Machine

open Sys2Proof.Forms

theorem ReadEffect.keeps {s t : State} (h : ReadEffect s t) : KeepRegs [] s t := by
  rw [h]; intro r _; cases r <;> rfl

theorem WriteEffect.keeps {s t : State} (h : WriteEffect s t) : KeepRegs [] s t := by
  rw [h]; intro r _; cases r <;> rfl

/-- The fields that no instruction touches. -/
def Outer (s t : State) : Prop := t.b = s.b ∧ t.nmiReq = s.nmiReq ∧ t.fatal = s.fatal ∧ t.ppuHook = s.ppuHook ∧ t.ioHook = s.ioHook ∧
    t.cfg = s.cfg ∧ t.buttons0 = s.buttons0 ∧ t.buttons1 = s.buttons1 ∧ t.pending = s.pending ∧ t.out = s.out

theorem Outer.trans {s t u : State} (h : Outer s t) (h' : Outer t u) : Outer s u := by
  unfold Outer at *; simp_all

theorem RegsOnly.outer {s t : State} (h : RegsOnly s t) : Outer s t := by
  rw [h]; exact ⟨rfl, rfl, rfl, rfl, rfl, rfl, rfl, rfl, rfl, rfl⟩

theorem ReadEffect.outer {s t : State} (h : ReadEffect s t) : Outer s t := by
  rw [h]; exact ⟨rfl, rfl, rfl, rfl, rfl, rfl, rfl, rfl, rfl, rfl⟩

theorem WriteEffect.outer {s t : State} (h : WriteEffect s t) : Outer s t := by
  rw [h]; exact ⟨rfl, rfl, rfl, rfl, rfl, rfl, rfl, rfl, rfl, rfl⟩

theorem pushAll_outer (ws : List Byte) (s : State) : Outer s (pushAll ws s) := by
  induction ws generalizing s with
  | nil => exact ⟨rfl, rfl, rfl, rfl, rfl, rfl, rfl, rfl, rfl, rfl⟩
  | cons w ws ih => exact Outer.trans ⟨rfl, rfl, rfl, rfl, rfl, rfl, rfl, rfl, rfl, rfl⟩ (ih (push w s))

theorem spend_regsOnly (k : Nat) (s : State) : RegsOnly s (spend k s) := rfl

theorem spend_keeps (k : Nat) (s : State) : KeepRegs [] s (spend k s) := by intro r _; cases r <;> rfl

theorem RegsOnly.stored {s t : State} (h : RegsOnly s t) (a : Word) : storedByte t a = storedByte s a := by
  rw [h]; rfl

theorem RegsOnly.periph {s t : State} (h : RegsOnly s t) : t.ppu = s.ppu ∧ t.apu = s.apu ∧ t.ctl = s.ctl ∧ t.dsk = s.dsk ∧ t.freeReads = s.freeReads := by
  rw [h]; exact ⟨rfl, rfl, rfl, rfl, rfl⟩

theorem busWrite_stored_periph {a : Word} {w : Byte} {s t : State} (h : busWrite a w s = .ok () t) (hs : (storedByte s a).isSome = true) :
    t.ppu = s.ppu ∧ t.apu = s.apu ∧ t.ctl = s.ctl ∧ t.dsk = s.dsk ∧ t.freeReads = s.freeReads := by
  unfold storedByte at hs; unfold busWrite at h
  split at hs <;> simp at hs <;> simp_all
  · rw [← h]; simp
  · rw [← h]; simp

theorem pushAll_periph (ws : List Byte) (s : State) : (pushAll ws s).ppu = s.ppu ∧ (pushAll ws s).apu = s.apu ∧ (pushAll ws s).ctl = s.ctl ∧ (pushAll ws s).dsk = s.dsk ∧ (pushAll ws s).freeReads = s.freeReads := by
  induction ws generalizing s with
  | nil => exact ⟨rfl, rfl, rfl, rfl, rfl⟩
  | cons w ws ih => exact ih (push w s)

theorem readPenalty_le (o : Operand) (s : State) : readPenalty o s ≤ 1 := by
  cases o <;> simp [readPenalty, Bool.toNat_le]

theorem readClass_inv {o : Operand} {base : Nat} {g : Byte → State → State} {s t : State} (h : (readClass o base g s).outcome = .next t) :
    ∃ w u, loadOperand o s = .ok w u ∧ t = spend (base + readPenalty o s) (g w u) := by
  rw [outcome_eq_next] at h; unfold readClass at h
  rw [andThen_eq_ok] at h
  obtain ⟨w, u, h1, h2⟩ := h
  cases h2; exact ⟨w, u, h1, rfl⟩

theorem storeClass_inv {m : MemOperand} {base : Nat} {w : Byte} {s t : State} (h : (storeClass m base w s).outcome = .next t) :
    ∃ u, busWrite (resolve m s).addr w s = .ok () u ∧ t = spend base u := by
  rw [outcome_eq_next] at h; unfold storeClass at h
  rw [andThen_eq_ok] at h
  obtain ⟨w, u, h1, h2⟩ := h
  cases h2; exact ⟨u, h1, rfl⟩

theorem rmwClass_inv {m : MemOperand} {base : Nat} {f : Byte → Bool → Shifted} {g : Shifted → State → State} {s t : State} (h : (rmwClass m base f g s).outcome = .next t) :
    ∃ w u v, busRead (resolve m s).addr s = .ok w u ∧ busWrite (resolve m s).addr (f w u.c).r u = .ok () v ∧ t = spend base (g (f w u.c) v) := by
  rw [outcome_eq_next] at h; unfold rmwClass at h
  rw [andThen_eq_ok] at h
  obtain ⟨w, u, h1, h2⟩ := h
  rw [andThen_eq_ok] at h2
  obtain ⟨_, v, h3, h4⟩ := h2
  cases h4; exact ⟨w, u, v, h1, h3, rfl⟩

theorem jump_inv {p : Word} {base : Nat} {s t : State} (h : (jumpIndirect p base s).outcome = .next t) :
    ∃ lo u hi v, busRead p s = .ok lo u ∧ busRead (pointerHigh u.cfg p) u = .ok hi v ∧ t = spend base { v with pc := joinBytes hi lo } := by
  rw [outcome_eq_next] at h; unfold jumpIndirect at h
  rw [andThen_eq_ok] at h
  obtain ⟨w, u, h1, h2⟩ := h
  rw [andThen_eq_ok] at h2
  obtain ⟨hi, v, h3, h4⟩ := h2
  cases h4; exact ⟨w, u, hi, v, h1, h3, rfl⟩

/-- What an instruction adds to the cycle counter (R103, R480). -/
theorem exec_cost {i : Instr} {s t : State} (h : exec i s = .next t) : ∃ k, 2 ≤ k ∧ k ≤ 8 ∧ t.cyc = s.cyc + k := by
  cases exec_shape i with
  | read o base g stores data regs same keeps lo hi run =>
    rw [run] at h
    obtain ⟨w, u, hu, rfl⟩ := readClass_inv h
    have := readPenalty_le o s
    have hc : u.cyc = s.cyc := by rw [loadOperand_effect hu]
    exact ⟨base + readPenalty o s, by omega, by omega, by rw [spend_cyc, same, hc]⟩
  | store m base v stores data lo hi run =>
    rw [run] at h
    obtain ⟨u, hu, rfl⟩ := storeClass_inv h
    have hc : u.cyc = s.cyc := by rw [busWrite_effect hu]
    exact ⟨_, lo, hi, by rw [spend_cyc, hc]⟩
  | rmw m base f g stores data regs same keeps lo hi run =>
    rw [run] at h
    obtain ⟨w, u, v, hu, hv, rfl⟩ := rmwClass_inv h
    have hc : v.cyc = s.cyc := by rw [busWrite_effect hv, busRead_effect hu]
    exact ⟨_, lo, hi, by rw [spend_cyc, same, hc]⟩
  | regs cost g stores data regs same keeps lo hi run =>
    rw [run] at h; cases h
    exact ⟨_, lo s, hi s, by rw [spend_cyc, same]⟩
  | push base bytes g stores data few regs same keeps lo hi run =>
    rw [run] at h; cases h
    exact ⟨_, lo, hi, by rw [spend_cyc, same]⟩
  | jump p stores data run =>
    rw [run] at h
    obtain ⟨lo, u, hi, v, hu, hv, rfl⟩ := jump_inv h
    have hc : v.cyc = s.cyc := by rw [busRead_effect hv, busRead_effect hu]
    exact ⟨5, by omega, by omega, by rw [spend_cyc, ← hc]⟩
  | stop op mem run => rw [run] at h; cases h

end Sys2Proof.Machine
end

