-- ==== Sys2Proof/Laws/Invariant.lean ====
section
/-! SUPPORT. Every operation of a unit keeps that unit well formed (`ppuWf`, `apuWf`, `diskWf`, `memoryWf`): the pieces
of the invariant `State.wf`. -/

namespace Sys2Proof.Machine

open Sys2Proof.Forms

-- Pixel processor

theorem ppuWf_iff {p : Ppu} : ppuWf p = true ↔
    memoryWf 0 256 p.oam = true ∧ memoryWf 0 8192 p.pat = true ∧ memoryWf 0 1024 p.nt0 = true ∧
    memoryWf 0 1024 p.nt1 = true ∧ paletteWf p.pal = true ∧ p.status &&& 0x3F = 0 ∧ p.dot ≤ 340 ∧
    -1 ≤ p.scanline ∧ p.scanline ≤ 260 := by
  simp [ppuWf, and_assoc]

theorem all_consCell {f : Host.Cell → Bool} {k : Nat} {w : Byte} {m : Memory} (hm : m.all f = true) (hf : f (k, w) = true) :
    (consCell k w m).all f = true := by
  unfold consCell; split
  · exact hm
  · rw [List.all_cons, hf, hm]; rfl

theorem all_writeCell {f : Host.Cell → Bool} {k : Nat} {w : Byte} {m : Memory} (hm : m.all f = true) (hf : f (k, w) = true) :
    (writeCell m k w).all f = true := by
  induction m with
  | nil => exact all_consCell rfl hf
  | cons c m ih =>
    obtain ⟨j, u⟩ := c
    rw [List.all_cons, Bool.and_eq_true] at hm
    unfold writeCell
    split
    · exact all_consCell hm.2 hf
    · split
      · exact all_consCell (by rw [List.all_cons, hm.1, hm.2]; rfl) hf
      · rw [List.all_cons, hm.1, ih hm.2]; rfl

theorem palIndex_idem {i : Nat} (h : i < 32) : palIndex (palIndex i) = palIndex i ∧ palIndex i < 32 := by
  revert i; decide

theorem and_mask_lt (w : Byte) : (w &&& 0x3F).toNat < 64 := by
  have h : ∀ w : Byte, (w &&& 0x3F).toNat < 64 := by decide
  exact h w

theorem paletteWf_write {m : Memory} (h : paletteWf m = true) {i : Nat} (hi : i < 32) (w : Byte) :
    paletteWf (writeCell m (palIndex i) (w &&& 0x3F)) = true := by
  obtain ⟨h1, h2⟩ := palIndex_idem hi
  simp only [paletteWf, Bool.and_eq_true] at h ⊢
  refine ⟨writeCell_wf _ h.1 (by omega) h2, all_writeCell h.2 ?_⟩
  simp only [h1, beq_self_eq_true, Bool.true_and, decide_eq_true_eq]
  exact and_mask_lt w

theorem vramWrite_wf {p : Ppu} {a : Nat} {w : Byte} (h : ppuWf p = true) :
    ppuWf (vramWrite p a w) = true := by
  rw [ppuWf_iff] at *
  obtain ⟨h1, h2, h3, h4, h5, h6⟩ := h
  unfold vramWrite ntWrite
  split
  · exact ⟨h1, writeCell_wf w h2 (by omega) (by omega), h3, h4, h5, h6⟩
  · split
    · split
      · exact ⟨h1, h2, writeCell_wf w h3 (by omega) (Nat.mod_lt _ (by decide)), h4, h5, h6⟩
      · exact ⟨h1, h2, h3, writeCell_wf w h4 (by omega) (Nat.mod_lt _ (by decide)), h5, h6⟩
    · exact ⟨h1, h2, h3, h4, paletteWf_write h5 (Nat.mod_lt _ (by decide)) w, h6⟩

theorem oamWrite_wf {p : Ppu} {i : Nat} (hi : i < 256) (w : Byte) (h : ppuWf p = true) :
    ppuWf { p with oam := writeCell p.oam i w } = true := by
  rw [ppuWf_iff] at *
  exact ⟨writeCell_wf w h.1 (by omega) hi, h.2⟩

theorem ppuStore_wf (r : PpuReg) (w : Byte) {p : Ppu} (h : ppuWf p = true) : ppuWf (ppuStore r w p) = true := by
  cases r with
  | control => exact h
  | mask => exact h
  | status => exact h
  | oamAddress => exact h
  | oamData => exact oamWrite_wf p.oamAddr.isLt w h
  | scroll => simp only [ppuStore]; split <;> exact h
  | vramAddress => simp only [ppuStore]; split <;> exact h
  | vramData => exact vramWrite_wf h

theorem status_and_7F (w : Byte) : w &&& 0x3F = 0 → (w &&& 0x7F) &&& 0x3F = 0 := by revert w; decide
theorem status_and_3F (w : Byte) : w &&& 0x3F = 0 → (w &&& 0x3F) &&& 0x3F = 0 := by revert w; decide
theorem status_or_40 (w : Byte) : w &&& 0x3F = 0 → (w ||| 0x40) &&& 0x3F = 0 := by revert w; decide
theorem status_or_80 (w : Byte) : w &&& 0x3F = 0 → (w ||| 0x80) &&& 0x3F = 0 := by revert w; decide

theorem statusWasRead_wf {p : Ppu} (h : ppuWf p = true) : ppuWf (statusWasRead p) = true := by
  rw [ppuWf_iff] at *
  obtain ⟨h1, h2, h3, h4, h5, h6, h7⟩ := h
  exact ⟨h1, h2, h3, h4, h5, status_and_7F _ h6, h7⟩

theorem dataPortWasRead_wf {p : Ppu} (h : ppuWf p = true) : ppuWf (dataPortWasRead p) = true := by
  rw [dataPortWasRead_eq]; exact h

/-- The event of a dot keeps the counters. -/
theorem ppuEvent_ppu (s : State) : ∃ st sel, (ppuEvent s).ppu = { s.ppu with status := st, ntSel := sel } ∧
    (s.ppu.status &&& 0x3F = 0 → st &&& 0x3F = 0) := by
  unfold ppuEvent
  split
  · exact ⟨_, _, rfl, status_and_3F _⟩
  · split
    · unfold renderScanline
      split
      · exact ⟨_, s.ppu.ntSel, rfl, status_or_40 _⟩
      · exact ⟨s.ppu.status, s.ppu.ntSel, rfl, id⟩
    · split
      · exact ⟨_, s.ppu.ntSel, rfl, status_or_80 _⟩
      · exact ⟨s.ppu.status, s.ppu.ntSel, rfl, id⟩

theorem advanceDot_wf {p : Ppu} (h : ppuWf p = true) : ppuWf (advanceDot p) = true := by
  rw [ppuWf_iff] at *
  obtain ⟨h1, h2, h3, h4, h5, h6, h7, h8, h9⟩ := h
  unfold advanceDot
  split
  · split
    · exact ⟨h1, h2, h3, h4, h5, h6, by simp, by simp, by simp⟩
    · exact ⟨h1, h2, h3, h4, h5, h6, by simp, by simp; omega, by simp; omega⟩
  · exact ⟨h1, h2, h3, h4, h5, h6, by simp; omega, h8, h9⟩

theorem ppuTick_wf {s : State} (h : ppuWf s.ppu = true) : ppuWf (ppuTick s).ppu = true := by
  obtain ⟨st, sel, he, hst⟩ := ppuEvent_ppu s
  refine advanceDot_wf ?_
  rw [he, ppuWf_iff]
  rw [ppuWf_iff] at h
  obtain ⟨h1, h2, h3, h4, h5, h6, h7⟩ := h
  exact ⟨h1, h2, h3, h4, h5, hst h6, h7⟩

/-- A dot touches the pixel processor, the NMI request and the output only (R295 to R300). -/
theorem ppuTick_effect (s : State) :
    ppuTick s = { s with ppu := (ppuTick s).ppu, nmiReq := (ppuTick s).nmiReq, out := (ppuTick s).out } := by
  unfold ppuTick ppuEvent
  split
  · rfl
  · split
    · rfl
    · split <;> rfl

-- Audio processor

theorem apuWf_iff {q : Apu} : apuWf q = true ↔ q.fsStep < (if q.fsMode then 5 else 4) := decide_eq_true_iff

theorem apuWrite_wf (r : IoReg) (w : Byte) {q : Apu} (h : apuWf q = true) : apuWf (apuWrite r w q) = true := by
  cases r with
  | frame => 
    rw [apuWf_iff]
    show 0 < (if w.getLsbD 7 = true then 5 else 4)
    split <;> omega
  | _ => exact h

theorem sequencerStep_wf (q : Apu) : apuWf (sequencerStep q) = true := by
  have hm : (sequencerStep q).fsMode = q.fsMode := by
    unfold sequencerStep halfClock quarterClock; simp only; split <;> rfl
  have hs : (sequencerStep q).fsStep = (q.fsStep + 1) % (if q.fsMode then 5 else 4) := rfl
  rw [apuWf_iff, hm, hs]
  split <;> omega

theorem dividerStep_wf (d n : Nat) {q : Apu} (h : apuWf q = true) : apuWf (dividerStep d n q) = true := by
  unfold dividerStep
  split
  · exact sequencerStep_wf _
  · exact h

-- Disk system

/-- The index where the stream starts lies within an accepted image (R383). -/
theorem diskStart_lt {cfg : Params} (h : cfg.accepted = true) (hp : cfg.diskPresent = true) :
    cfg.diskStart < cfg.diskImage.length := by
  simp [Params.accepted, hp] at h; exact h.1

theorem diskWf_iff {cfg : Params} {q : Disk} : diskWf cfg q = true ↔
    q.ram = [] ∧ q.count < blockLength q ∧ (cfg.diskPresent = true → q.index ≤ cfg.diskImage.length) := by
  simp only [diskWf, Bool.and_eq_true, beq_iff_eq, decide_eq_true_eq, Bool.or_eq_true, Bool.not_eq_true', and_assoc]
  constructor
  · rintro ⟨h1, h2, h3⟩
    exact ⟨h1, h2, fun hp => by simpa [hp] using h3⟩
  · rintro ⟨h1, h2, h3⟩
    refine ⟨h1, h2, ?_⟩
    cases hp : cfg.diskPresent
    · exact .inl rfl
    · exact .inr (h3 hp)

theorem resetDecoder_wf {cfg : Params} {q : Disk} (hc : cfg.accepted = true) (h : q.ram = []) :
    diskWf cfg (resetDecoder cfg q) = true := by
  rw [diskWf_iff]
  exact ⟨h, (by decide : 0 < 56), fun hp => Nat.le_of_lt (diskStart_lt hc hp)⟩

theorem diskRegWrite_wf (r : DiskReg) (w : Byte) {s : State} (hc : s.cfg.accepted = true)
    (h : diskWf s.cfg s.dsk = true) : diskWf s.cfg (diskRegWrite r w s).dsk = true := by
  cases r with
  | control =>
    simp only [diskRegWrite, diskControl]
    split
    · exact resetDecoder_wf hc (diskWf_iff.1 h).1
    · exact h
  | _ => exact h

theorem diskRegWrite_ppu (r : DiskReg) (w : Byte) {s : State} (h : ppuWf s.ppu = true) :
    ppuWf (diskRegWrite r w s).ppu = true := by
  cases r <;> exact h

theorem timerTick_wf {cfg : Params} {q : Disk} (h : diskWf cfg q = true) : diskWf cfg (timerTick q) = true := by
  unfold timerTick
  split
  · split
    · split <;> exact h
    · exact h
  · exact h

theorem imageIndex_lt {cfg : Params} (hc : cfg.accepted = true) (hp : cfg.diskPresent = true) (q : Disk) :
    imageIndex cfg q < cfg.diskImage.length := by
  have := diskStart_lt hc hp
  unfold imageIndex; split <;> omega

/-- What one byte's own action leaves (R398, R400). -/
theorem noteByte_frame (w : Byte) (q : Disk) : (noteByte w q).ram = q.ram ∧ (noteByte w q).index = q.index ∧
    (noteByte w q).state = q.state ∧ (noteByte w q).count = q.count := by
  unfold noteByte
  split
  · split <;> exact ⟨rfl, rfl, rfl, rfl⟩
  · exact ⟨rfl, rfl, rfl, rfl⟩
  all_goals exact ⟨rfl, rfl, rfl, rfl⟩

theorem nextBlock_wf {cfg : Params} (hc : cfg.accepted = true) {q : Disk} (hr : q.ram = []) (h0 : q.count = 0)
    (hi : cfg.diskPresent = true → q.index ≤ cfg.diskImage.length) : diskWf cfg (nextBlock cfg q) = true := by
  rw [diskWf_iff]
  have hs : cfg.diskPresent = true → cfg.diskStart ≤ cfg.diskImage.length :=
    fun hp => Nat.le_of_lt (diskStart_lt hc hp)
  have hb : ∀ q' : Disk, 0 < blockLength q' := by
    intro q'; unfold blockLength; split <;> omega
  unfold nextBlock
  split
  case h_4 => split <;> exact ⟨hr, by simp only [wrapDisk, h0]; exact hb _, by first | exact hi | exact hs⟩
  case h_8 => dsimp only; split <;> exact ⟨hr, by simp only [wrapDisk, h0]; exact hb _, by first | exact hi | exact hs⟩
  all_goals exact ⟨hr, by simp only [h0]; exact hb _, hi⟩

theorem takeByte_wf {cfg : Params} (hc : cfg.accepted = true) {q : Disk} (h : diskWf cfg q = true) :
    diskWf cfg (takeByte cfg q) = true := by
  rw [diskWf_iff] at h
  obtain ⟨h1, h2, h3⟩ := h
  unfold takeByte
  generalize hq : (if fromImage cfg q = true then imageTaken cfg q else q) = q0
  have hr0 : q0.ram = [] := by rw [← hq]; split <;> exact h1
  have hi0 : cfg.diskPresent = true → q0.index ≤ cfg.diskImage.length := by
    intro hp
    have h4 := imageIndex_lt hc hp q
    have h5 := h3 hp
    rw [← hq]; split
    · simp only [imageTaken]; omega
    · exact h5
  obtain ⟨f1, f2, -, -⟩ := noteByte_frame (nextByte cfg q) q0
  dsimp only
  split
  · exact nextBlock_wf hc (by rw [← hr0]; exact f1) rfl (by intro hp; rw [← f2] at hi0; exact hi0 hp)
  · rename_i hlt
    rw [diskWf_iff]
    refine ⟨by rw [← hr0]; exact f1, ?_, by intro hp; rw [← f2] at hi0; exact hi0 hp⟩
    exact Nat.lt_of_not_le hlt

theorem latencyTick_wf {cfg : Params} (hc : cfg.accepted = true) {q : Disk} (h : diskWf cfg q = true) :
    diskWf cfg (latencyTick cfg q) = true := by
  unfold latencyTick
  split
  · dsimp only
    split
    · exact takeByte_wf hc (q := { q with latency := q.latency - 1 }) h
    · exact h
  · exact h

end Sys2Proof.Machine
end

