-- ==== Sys2Proof/Laws/Iteration.lean ====
section
/-! SUPPORT. Each part of an iteration keeps a state well formed (`State.wf`), and what it does to the cycle counter:
bus accesses, instructions by their shape, interrupt entry, fetch, ticks, the audio step, CPU reset. -/

namespace Sys2Proof.Machine

open Sys2Proof.Forms

theorem wf_iff {s : State} : s.wf = true ↔ s.fatal = none ∧ s.ppuHook = true ∧ s.ioHook = true ∧ s.b = false ∧
    s.cfg.accepted = true ∧ memoryWf 0 0x800 s.ram = true ∧ memoryWf 0x4200 0x10000 s.cart = true ∧
    ppuWf s.ppu = true ∧ apuWf s.apu = true ∧ diskWf s.cfg s.dsk = true := by
  simp [State.wf, and_assoc]

theorem RegsOnly.wf {s t : State} (h : RegsOnly s t) (hs : s.wf = true) : t.wf = true := by
  rw [h]; exact hs

theorem ppuRegRead_wf {r : PpuReg} {s t : State} {w : Byte} (h : ppuRegRead r s = .ok w t) (hs : ppuWf s.ppu = true) : ppuWf t.ppu = true := by
  cases r <;> simp only [ppuRegRead, freeRead] at h
  case vramData => split at h
                   · cases h; exact dataPortWasRead_wf hs
                   · cases h
  case status => cases h; exact statusWasRead_wf hs
  all_goals cases h; exact hs

theorem ioWindowRead_ppu {a : Word} {w : Byte} {t s' : State} (h : ioWindowRead a s' = .ok w t) : t.ppu = s'.ppu := by
  unfold ioWindowRead at h
  split at h
  · cases hr : ioReg a <;> simp only [hr, ioRead, controllerRead0, controllerRead1, freeRead] at h <;>
      try (first | (cases h; rfl) | (split at h <;> cases h <;> rfl))
    split at h
    · rename_i q _; cases q <;> simp only [diskRegRead, freeRead] at h <;> cases h <;> rfl
    · cases h; rfl
  · cases h

theorem busRead_ppuWf {a : Word} {s t : State} {w : Byte} (h : busRead a s = .ok w t) (hs : ppuWf s.ppu = true) : ppuWf t.ppu = true := by
  unfold busRead at h
  split at h
  · cases h; exact hs
  · split at h
    · exact ppuRegRead_wf h hs
    · cases h
  · rw [ioWindowRead_ppu h]; exact hs
  · rw [ioWindowRead_ppu h]; exact hs
  · cases h; exact hs

theorem busRead_wf {a : Word} {s t : State} {w : Byte} (h : busRead a s = .ok w t) (hs : s.wf = true) : t.wf = true := by
  have he := busRead_effect h
  have hp := busRead_ppuWf h
  rw [wf_iff] at *
  obtain ⟨h1, h2, h3, h4, h5, h6, h7, h8, h9, h10⟩ := hs
  refine ⟨?_, ?_, ?_, ?_, ?_, ?_, ?_, hp h8, ?_, ?_⟩ <;> rw [he] <;> assumption

theorem copyBytes_wf {page : Byte} {k i : Nat} {s t : State} (hk : k + i = 256) (h : copyBytes page k i s = .ok () t) (hs : s.wf = true) : t.wf = true := by
  induction k generalizing i s with
  | zero => cases h; exact hs
  | succ k ih =>
    cases hr : readOk s (BitVec.ofNat 16 (page.toNat * 256 + i)) with
    | true =>
      obtain ⟨v, u, hu⟩ := busRead_ok hr
      rw [copyBytes_succ hu] at h
      refine ih (by omega) h ?_
      have hw := busRead_wf hu hs
      rw [wf_iff] at *
      obtain ⟨h1, h2, h3, h4, h5, h6, h7, h8, h9⟩ := hw
      exact ⟨h1, h2, h3, h4, h5, h6, h7, oamWrite_wf (by omega) v h8, h9⟩
    | false => rw [copyBytes_stop (busRead_stop hr)] at h; cases h

theorem busWrite_wf {a : Word} {s t : State} {w : Byte} (h : busWrite a w s = .ok () t) (hs : s.wf = true) : t.wf = true := by
  have hs' := hs
  rw [wf_iff] at hs
  obtain ⟨h1, h2, h3, h4, h5, h6, h7, h8, h9, h10⟩ := hs
  unfold busWrite at h
  split at h
  · rename_i k hk; cases h; rw [wf_iff]
    exact ⟨h1, h2, h3, h4, h5, writeCell_wf w h6 (by omega) (region_ram_lt hk), h7, h8, h9, h10⟩
  · rw [if_pos h2] at h
    unfold ppuRegWrite at h
    simp only at h
    split at h
    · cases h
    · cases h; rw [wf_iff]
      exact ⟨h1, h2, h3, h4, h5, h6, h7, ppuStore_wf _ _ h8, h9, h10⟩
  · exact copyBytes_wf rfl h hs'
  · rw [if_pos h3] at h
    cases h
    rw [wf_iff]
    unfold ioWrite
    split
    · unfold strobeWrite; split <;> exact ⟨h1, h2, h3, h4, h5, h6, h7, h8, h9, h10⟩
    · split
      · rename_i q hq hp
        have hd := diskRegWrite_wf q w h5 h10
        have hpp := diskRegWrite_ppu q w h8
        refine ⟨?_, ?_, ?_, ?_, ?_, ?_, ?_, hpp, ?_, ?_⟩
        all_goals cases q <;> assumption
      · exact ⟨h1, h2, h3, h4, h5, h6, h7, h8, h9, h10⟩
    · exact ⟨h1, h2, h3, h4, h5, h6, h7, h8, h9, h10⟩
    all_goals exact ⟨h1, h2, h3, h4, h5, h6, h7, h8, apuWrite_wf _ _ h9, h10⟩
  · rename_i k hk; cases h; rw [wf_iff]
    exact ⟨h1, h2, h3, h4, h5, h6, writeCell_wf w h7 (region_cart_bounds hk).1 (region_cart_bounds hk).2, h8, h9, h10⟩

theorem pushAll_wf (ws : List Byte) {s : State} (h : s.wf = true) : (pushAll ws s).wf = true := by
  induction ws generalizing s with
  | nil => exact h
  | cons w ws ih =>
    apply ih
    rw [wf_iff] at *
    obtain ⟨h1, h2, h3, h4, h5, h6, h7⟩ := h
    exact ⟨h1, h2, h3, h4, h5, push_wf w h6, h7⟩

theorem loadOperand_wf {o : Operand} {s t : State} {w : Byte} (h : loadOperand o s = .ok w t) (hs : s.wf = true) : t.wf = true := by
  cases o with
  | acc => cases h; exact hs
  | imm v => cases h; exact hs
  | mem m => exact busRead_wf h hs

theorem exec_wf {i : Instr} {s t : State} (h : exec i s = .next t) (hs : s.wf = true) : t.wf = true := by
  cases exec_shape i with
  | read o base g stores data regs same keeps lo hi run =>
    rw [run] at h
    obtain ⟨w, u, hu, rfl⟩ := readClass_inv h
    exact RegsOnly.wf (spend_regsOnly _ _) (RegsOnly.wf (regs _ _) (loadOperand_wf hu hs))
  | store m base v stores data lo hi run =>
    rw [run] at h
    obtain ⟨u, hu, rfl⟩ := storeClass_inv h
    exact RegsOnly.wf (spend_regsOnly _ _) (busWrite_wf hu hs)
  | rmw m base f g stores data regs same keeps lo hi run =>
    rw [run] at h
    obtain ⟨w, u, v, hu, hv, rfl⟩ := rmwClass_inv h
    exact RegsOnly.wf (spend_regsOnly _ _) (RegsOnly.wf (regs _ _) (busWrite_wf hv (busRead_wf hu hs)))
  | regs cost g stores data regs same keeps lo hi run =>
    rw [run] at h; cases h
    exact RegsOnly.wf (spend_regsOnly _ _) (RegsOnly.wf (regs _) hs)
  | push base bytes g stores data few regs same keeps lo hi run =>
    rw [run] at h; cases h
    exact RegsOnly.wf (spend_regsOnly _ _) (RegsOnly.wf (regs _) (pushAll_wf _ hs))
  | jump p stores data run =>
    rw [run] at h
    obtain ⟨lo, u, hi, v, hu, hv, rfl⟩ := jump_inv h
    exact RegsOnly.wf (s := v) rfl (busRead_wf hv (busRead_wf hu hs))
  | stop op mem run => rw [run] at h; cases h

theorem resetCpu_wf {s : State} (h : s.wf = true) : (resetCpu s).wf = true := by
  rw [wf_iff] at *
  obtain ⟨h1, h2, h3, h4, h5, h6, h7, h8, h9, h10⟩ := h
  exact ⟨h1, h2, h3, rfl, h5, h6, h7, h8, h9, h10⟩

theorem hostTurn_wf {s : State} (h : s.wf = true) : (hostTurn s).wf = true := by
  unfold hostTurn
  split
  · exact h
  · unfold applyHostAct; split
    · exact h
    · exact h
    · exact resetCpu_wf h

theorem serviceInterrupts_wf {s : State} (h : s.wf = true) : (serviceInterrupts s).wf = true := by
  unfold serviceInterrupts
  split
  · exact RegsOnly.wf (s := pushAll [highByte s.pc, lowByte s.pc, pByte false s] { s with nmiReq := false }) rfl (pushAll_wf _ h)
  · split
    · exact RegsOnly.wf (s := pushAll [highByte s.pc, lowByte s.pc, pByte false s] s) rfl (pushAll_wf _ h)
    · exact h

theorem fetchByte_wf {s t : State} {w : Byte} (h : fetchByte s = .ok w t) (hs : s.wf = true) : t.wf = true := by
  unfold fetchByte at h
  rw [andThen_eq_ok] at h
  obtain ⟨v, u, h1, h2⟩ := h
  cases h2
  exact RegsOnly.wf (s := u) rfl (busRead_wf h1 hs)

theorem fetchInstr_wf {s t : State} {i : Instr} (h : fetchInstr s = .ok i t) (hs : s.wf = true) : t.wf = true := by
  unfold fetchInstr at h
  rw [andThen_eq_ok] at h
  obtain ⟨op, u, h1, h2⟩ := h
  have hu := fetchByte_wf h1 hs
  split at h2
  · cases h2; exact hu
  · rw [andThen_eq_ok] at h2
    obtain ⟨w, v, h3, h4⟩ := h2
    cases h4; exact fetchByte_wf h3 hu
  · rw [andThen_eq_ok] at h2
    obtain ⟨w, v, h3, h4⟩ := h2
    rw [andThen_eq_ok] at h4
    obtain ⟨w', v', h5, h6⟩ := h4
    cases h6; exact fetchByte_wf h5 (fetchByte_wf h3 hu)
  · cases h2

theorem ppuTick_stateWf {s : State} (h : s.wf = true) : (ppuTick s).wf = true := by
  have he := ppuTick_effect s
  rw [wf_iff] at *
  obtain ⟨h1, h2, h3, h4, h5, h6, h7, h8, h9, h10⟩ := h
  have hp := ppuTick_wf h8
  refine ⟨?_, ?_, ?_, ?_, ?_, ?_, ?_, hp, ?_, ?_⟩ <;> rw [he] <;> assumption

theorem diskTick_stateWf {s : State} (h : s.wf = true) : (diskTick s).wf = true := by
  unfold diskTick
  split
  · rw [wf_iff] at *
    obtain ⟨h1, h2, h3, h4, h5, h6, h7, h8, h9, h10⟩ := h
    exact ⟨h1, h2, h3, h4, h5, h6, h7, h8, h9, latencyTick_wf h5 (timerTick_wf h10)⟩
  · exact h

theorem ticks_wf (n : Nat) {s : State} (h : s.wf = true) : (ticks n s).wf = true := by
  induction n generalizing s with
  | zero => exact h
  | succ n ih => exact ih (diskTick_stateWf (ppuTick_stateWf (ppuTick_stateWf (ppuTick_stateWf h))))

theorem apuStep_stateWf (n : Nat) {s : State} (h : s.wf = true) : (apuStep n s).wf = true := by
  rw [wf_iff] at *
  obtain ⟨h1, h2, h3, h4, h5, h6, h7, h8, h9, h10⟩ := h
  exact ⟨h1, h2, h3, h4, h5, h6, h7, h8, dividerStep_wf _ _ h9, h10⟩

/-- What an iteration's rest adds to the counter: nothing (R480). -/
theorem ticks_cyc (n : Nat) (s : State) : (ticks n s).cyc = s.cyc := by
  induction n generalizing s with
  | zero => rfl
  | succ n ih =>
    rw [ticks, ih]
    have hd : ∀ s, (diskTick s).cyc = s.cyc := by intro s; unfold diskTick; split <;> rfl
    simp only [cycleTicks, kbdTick, hd]
    rw [ppuTick_effect]; dsimp only
    rw [ppuTick_effect]; dsimp only
    rw [ppuTick_effect]

/-- A fetch moves `pc` on and has the side effects of reads; nothing else (R12, R190). -/
theorem fetchByte_cyc {s t : State} {w : Byte} (h : fetchByte s = .ok w t) : t.cyc = s.cyc := by
  unfold fetchByte at h
  rw [andThen_eq_ok] at h
  obtain ⟨v, u, h1, h2⟩ := h
  cases h2; rw [busRead_effect h1]

theorem fetchInstr_cyc {s t : State} {i : Instr} (h : fetchInstr s = .ok i t) : t.cyc = s.cyc := by
  unfold fetchInstr at h
  rw [andThen_eq_ok] at h
  obtain ⟨op, u, h1, h2⟩ := h
  split at h2
  · cases h2; exact fetchByte_cyc h1
  · rw [andThen_eq_ok] at h2
    obtain ⟨w, v, h3, h4⟩ := h2
    cases h4; rw [fetchByte_cyc h3, fetchByte_cyc h1]
  · rw [andThen_eq_ok] at h2
    obtain ⟨w, v, h3, h4⟩ := h2
    rw [andThen_eq_ok] at h4
    obtain ⟨w', v', h5, h6⟩ := h4
    cases h6; rw [fetchByte_cyc h5, fetchByte_cyc h3, fetchByte_cyc h1]
  · cases h2

end Sys2Proof.Machine
end

