-- ==== Sys2Proof/Laws/Fetch.lean ====
section
/-! SUPPORT. Fetching an instruction from stored bytes, and what a stop keeps: a read stops in the state it started
from, and no stop touches the latch (R433). -/

namespace Sys2Proof.Machine

open Sys2Proof.Forms

/-- A stored byte at `pc` is fetched with no side effect (R12). -/
theorem fetchByte_stored {s : State} {w : Byte} (h : storedByte s s.pc = some w) : fetchByte s = .ok w { s with pc := s.pc + 1 } := by
  simp only [fetchByte, busRead_stored h, andThen_ok]

theorem fetch_f1 {op : Byte} {i : Instr} (h : patternOf op = some (.f1 i)) {s : State} (h0 : storedByte s s.pc = some op) :
    fetchInstr s = .ok i { s with pc := s.pc + 1 } := by
  simp only [fetchInstr, fetchByte_stored h0, andThen_ok, h]
theorem fetch_f2 {op b : Byte} {make : Byte → Instr} (h : patternOf op = some (.f2 make)) {s : State} (h0 : storedByte s s.pc = some op)
    (h1 : storedByte s (s.pc + 1) = some b) :
    fetchInstr s = .ok (make b) { s with pc := s.pc + 2 } := by
  simp only [fetchInstr, fetchByte_stored h0, andThen_ok, h]
  rw [fetchByte_stored (w := b) h1]
  simp only [andThen_ok, BitVec.add_assoc]; rfl
theorem fetch_f3 {op b1 b2 : Byte} {make : Word → Instr} (h : patternOf op = some (.f3 make)) {s : State} (h0 : storedByte s s.pc = some op)
    (h1 : storedByte s (s.pc + 1) = some b1) (h2 : storedByte s (s.pc + 2) = some b2) :
    fetchInstr s = .ok (make (joinBytes b2 b1)) { s with pc := s.pc + 3 } := by
  have e : s.pc + 1 + 1 = s.pc + 2 := by rw [BitVec.add_assoc]; rfl
  simp only [fetchInstr, fetchByte_stored h0, andThen_ok, h]
  rw [fetchByte_stored (w := b1) h1]
  simp only [andThen_ok]
  rw [fetchByte_stored (w := b2) (by show storedByte s (s.pc + 1 + 1) = _; rw [e]; exact h2)]
  simp only [andThen_ok, BitVec.add_assoc]; rfl

/-- Fetching from stored bytes reads the instruction they decode to (R82). -/
theorem fetch_decode {bs rest : List Byte} {i : Instr} {s : State} (h : decode bs = .ok (i, rest)) (hr : rest = [])
    (hb : ∀ (k : Nat) (w : Byte), bs[k]? = some w → storedByte s (s.pc + BitVec.ofNat 16 k) = some w) :
    fetchInstr s = .ok i { s with pc := s.pc + BitVec.ofNat 16 bs.length } := by
  cases bs with
  | nil => cases h
  | cons op bs =>
    have h0 : storedByte s s.pc = some op := by have := hb 0 op rfl; simpa using this
    simp only [decode] at h
    split at h
    · cases h
    · rename_i hp
      cases h; subst hr
      exact fetch_f1 hp h0
    · rename_i hp
      split at h
      · cases h; subst hr
        exact fetch_f2 hp h0 (hb 1 _ rfl)
      · cases h
    · rename_i hp
      split at h
      · cases h; subst hr
        exact fetch_f3 hp h0 (hb 1 _ rfl) (hb 2 _ rfl)
      · cases h

/-- A read that raises a condition changes nothing. -/
theorem busRead_stop_state {a : Word} {s t : State} {f : Fatal} (h : busRead a s = .stop f t) : t = s := by
  cases hr : readOk s a with
  | true => obtain ⟨w, u, hu⟩ := busRead_ok hr; rw [hu] at h; cases h
  | false => rw [busRead_stop hr] at h; cases h; rfl

/-- A write that raises a condition leaves the latch to whoever stops. -/
theorem busWrite_stop_fatal {a : Word} {w : Byte} {s t : State} {f : Fatal} (h : busWrite a w s = .stop f t) :
    t.fatal = s.fatal := by
  unfold busWrite at h
  split at h
  · cases h
  · split at h
    · unfold ppuRegWrite at h; simp only at h; split at h
      · cases h; rfl
      · cases h
    · cases h; rfl
  · have : ∀ k i (s : State), copyBytes w k i s = .stop f t → t.fatal = s.fatal := by
      intro k; induction k with
      | zero => intro i s h; cases h
      | succ k ih =>
        intro i s h
        cases hr : readOk s (BitVec.ofNat 16 (w.toNat * 256 + i)) with
        | true =>
          obtain ⟨v, u, hu⟩ := busRead_ok hr
          rw [copyBytes_succ hu] at h
          have := ih _ _ h
          have he := busRead_effect hu
          rw [this]; rw [he]
        | false =>
          rw [copyBytes_stop (busRead_stop hr)] at h; cases h; rfl
    exact this _ _ _ h
  · split at h
    · cases h
    · cases h; rfl
  · cases h

theorem fetchByte_stop_fatal {s t : State} {f : Fatal} (h : fetchByte s = .stop f t) : t.fatal = s.fatal := by
  unfold fetchByte at h
  rw [andThen_eq_stop] at h
  rcases h with h | ⟨v, u, h1, h2⟩
  · rw [busRead_stop_state h]
  · cases h2

theorem fetchByte_fatal {s t : State} {w : Byte} (h : fetchByte s = .ok w t) : t.fatal = s.fatal := by
  unfold fetchByte at h
  rw [andThen_eq_ok] at h
  obtain ⟨v, u, h1, h2⟩ := h
  cases h2; rw [busRead_effect h1]

theorem hostTurn_fatal (s : State) : (hostTurn s).fatal = s.fatal := by
  unfold hostTurn; split
  · rfl
  · unfold applyHostAct; split <;> rfl

theorem serviceInterrupts_fatal (s : State) : (serviceInterrupts s).fatal = s.fatal := by
  unfold serviceInterrupts; split
  · rfl
  · split <;> rfl

theorem latch_of_none {s : State} (f : Fatal) (h : s.fatal = none) : latch f s = { s with fatal := some f } := by
  simp [latch, h]

/-- Every opcode has a row, so the decoder knows every first byte (R81). -/
theorem patternOf_isSome (op : Byte) : (patternOf op).isSome = true := by
  revert op; decide +kernel

end Sys2Proof.Machine
end

