-- ==== Sys2Proof/Laws/PerInstr.lean ====
section
/-! SUPPORT. Families of statements about every instruction, one lemma per constructor. -/

namespace Sys2Proof.Laws.EncodedLength

/-- The number of bytes of a mode (R80: F1 one, F2 two, F3 three). -/
def bytesOfMode : Mode → Nat
  | .imp | .acc => 1
  | .imm | .zp | .zpx | .zpy | .izx | .izy | .rel => 2
  | .abs | .abx | .aby | .ind => 3

/-- An instruction's encoding is as long as its row's mode says (R80), but a stub's is the opcode byte alone,
since none of its operand bytes is fetched (R260). -/
def Statement (i : Instr) : Prop :=
  (encode i).length = if i.row.cls = .stub then 1 else bytesOfMode i.row.mode

theorem ldaIzx (z : Byte) : Statement (.ldaIzx z) := rfl
theorem ldaZp (z : Byte) : Statement (.ldaZp z) := rfl
theorem ldaImm (v : Byte) : Statement (.ldaImm v) := rfl
theorem ldaAbs (a : Word) : Statement (.ldaAbs a) := rfl
theorem ldaIzy (z : Byte) : Statement (.ldaIzy z) := rfl
theorem ldaZpx (z : Byte) : Statement (.ldaZpx z) := rfl
theorem ldaAby (a : Word) : Statement (.ldaAby a) := rfl
theorem ldaAbx (a : Word) : Statement (.ldaAbx a) := rfl
theorem ldxImm (v : Byte) : Statement (.ldxImm v) := rfl
theorem ldxZp (z : Byte) : Statement (.ldxZp z) := rfl
theorem ldxAbs (a : Word) : Statement (.ldxAbs a) := rfl
theorem ldxZpy (z : Byte) : Statement (.ldxZpy z) := rfl
theorem ldxAby (a : Word) : Statement (.ldxAby a) := rfl
theorem ldyImm (v : Byte) : Statement (.ldyImm v) := rfl
theorem ldyZp (z : Byte) : Statement (.ldyZp z) := rfl
theorem ldyAbs (a : Word) : Statement (.ldyAbs a) := rfl
theorem ldyZpx (z : Byte) : Statement (.ldyZpx z) := rfl
theorem ldyAbx (a : Word) : Statement (.ldyAbx a) := rfl
theorem staIzx (z : Byte) : Statement (.staIzx z) := rfl
theorem staZp (z : Byte) : Statement (.staZp z) := rfl
theorem staAbs (a : Word) : Statement (.staAbs a) := rfl
theorem staIzy (z : Byte) : Statement (.staIzy z) := rfl
theorem staZpx (z : Byte) : Statement (.staZpx z) := rfl
theorem staAby (a : Word) : Statement (.staAby a) := rfl
theorem staAbx (a : Word) : Statement (.staAbx a) := rfl
theorem stxZp (z : Byte) : Statement (.stxZp z) := rfl
theorem stxAbs (a : Word) : Statement (.stxAbs a) := rfl
theorem stxZpy (z : Byte) : Statement (.stxZpy z) := rfl
theorem styZp (z : Byte) : Statement (.styZp z) := rfl
theorem styAbs (a : Word) : Statement (.styAbs a) := rfl
theorem styZpx (z : Byte) : Statement (.styZpx z) := rfl
theorem tax : Statement .tax := rfl
theorem tay : Statement .tay := rfl
theorem txa : Statement .txa := rfl
theorem tya : Statement .tya := rfl
theorem tsx : Statement .tsx := rfl
theorem txs : Statement .txs := rfl
theorem pha : Statement .pha := rfl
theorem php : Statement .php := rfl
theorem pla : Statement .pla := rfl
theorem plp : Statement .plp := rfl
theorem adcIzx (z : Byte) : Statement (.adcIzx z) := rfl
theorem adcZp (z : Byte) : Statement (.adcZp z) := rfl
theorem adcImm (v : Byte) : Statement (.adcImm v) := rfl
theorem adcAbs (a : Word) : Statement (.adcAbs a) := rfl
theorem adcIzy (z : Byte) : Statement (.adcIzy z) := rfl
theorem adcZpx (z : Byte) : Statement (.adcZpx z) := rfl
theorem adcAby (a : Word) : Statement (.adcAby a) := rfl
theorem adcAbx (a : Word) : Statement (.adcAbx a) := rfl
theorem sbcIzx (z : Byte) : Statement (.sbcIzx z) := rfl
theorem sbcZp (z : Byte) : Statement (.sbcZp z) := rfl
theorem sbcImm (v : Byte) : Statement (.sbcImm v) := rfl
theorem sbcAbs (a : Word) : Statement (.sbcAbs a) := rfl
theorem sbcIzy (z : Byte) : Statement (.sbcIzy z) := rfl
theorem sbcZpx (z : Byte) : Statement (.sbcZpx z) := rfl
theorem sbcAby (a : Word) : Statement (.sbcAby a) := rfl
theorem sbcAbx (a : Word) : Statement (.sbcAbx a) := rfl
theorem andIzx (z : Byte) : Statement (.andIzx z) := rfl
theorem andZp (z : Byte) : Statement (.andZp z) := rfl
theorem andImm (v : Byte) : Statement (.andImm v) := rfl
theorem andAbs (a : Word) : Statement (.andAbs a) := rfl
theorem andIzy (z : Byte) : Statement (.andIzy z) := rfl
theorem andZpx (z : Byte) : Statement (.andZpx z) := rfl
theorem andAby (a : Word) : Statement (.andAby a) := rfl
theorem andAbx (a : Word) : Statement (.andAbx a) := rfl
theorem oraIzx (z : Byte) : Statement (.oraIzx z) := rfl
theorem oraZp (z : Byte) : Statement (.oraZp z) := rfl
theorem oraImm (v : Byte) : Statement (.oraImm v) := rfl
theorem oraAbs (a : Word) : Statement (.oraAbs a) := rfl
theorem oraIzy (z : Byte) : Statement (.oraIzy z) := rfl
theorem oraZpx (z : Byte) : Statement (.oraZpx z) := rfl
theorem oraAby (a : Word) : Statement (.oraAby a) := rfl
theorem oraAbx (a : Word) : Statement (.oraAbx a) := rfl
theorem eorIzx (z : Byte) : Statement (.eorIzx z) := rfl
theorem eorZp (z : Byte) : Statement (.eorZp z) := rfl
theorem eorImm (v : Byte) : Statement (.eorImm v) := rfl
theorem eorAbs (a : Word) : Statement (.eorAbs a) := rfl
theorem eorIzy (z : Byte) : Statement (.eorIzy z) := rfl
theorem eorZpx (z : Byte) : Statement (.eorZpx z) := rfl
theorem eorAby (a : Word) : Statement (.eorAby a) := rfl
theorem eorAbx (a : Word) : Statement (.eorAbx a) := rfl
theorem bitZp (z : Byte) : Statement (.bitZp z) := rfl
theorem bitAbs (a : Word) : Statement (.bitAbs a) := rfl
theorem cmpIzx (z : Byte) : Statement (.cmpIzx z) := rfl
theorem cmpZp (z : Byte) : Statement (.cmpZp z) := rfl
theorem cmpImm (v : Byte) : Statement (.cmpImm v) := rfl
theorem cmpAbs (a : Word) : Statement (.cmpAbs a) := rfl
theorem cmpIzy (z : Byte) : Statement (.cmpIzy z) := rfl
theorem cmpZpx (z : Byte) : Statement (.cmpZpx z) := rfl
theorem cmpAby (a : Word) : Statement (.cmpAby a) := rfl
theorem cmpAbx (a : Word) : Statement (.cmpAbx a) := rfl
theorem cpxImm (v : Byte) : Statement (.cpxImm v) := rfl
theorem cpxZp (z : Byte) : Statement (.cpxZp z) := rfl
theorem cpxAbs (a : Word) : Statement (.cpxAbs a) := rfl
theorem cpyImm (v : Byte) : Statement (.cpyImm v) := rfl
theorem cpyZp (z : Byte) : Statement (.cpyZp z) := rfl
theorem cpyAbs (a : Word) : Statement (.cpyAbs a) := rfl
theorem incZp (z : Byte) : Statement (.incZp z) := rfl
theorem incAbs (a : Word) : Statement (.incAbs a) := rfl
theorem incZpx (z : Byte) : Statement (.incZpx z) := rfl
theorem incAbx (a : Word) : Statement (.incAbx a) := rfl
theorem decZp (z : Byte) : Statement (.decZp z) := rfl
theorem decAbs (a : Word) : Statement (.decAbs a) := rfl
theorem decZpx (z : Byte) : Statement (.decZpx z) := rfl
theorem decAbx (a : Word) : Statement (.decAbx a) := rfl
theorem inx : Statement .inx := rfl
theorem iny : Statement .iny := rfl
theorem dex : Statement .dex := rfl
theorem dey : Statement .dey := rfl
theorem aslZp (z : Byte) : Statement (.aslZp z) := rfl
theorem aslAcc : Statement .aslAcc := rfl
theorem aslAbs (a : Word) : Statement (.aslAbs a) := rfl
theorem aslZpx (z : Byte) : Statement (.aslZpx z) := rfl
theorem aslAbx (a : Word) : Statement (.aslAbx a) := rfl
theorem lsrZp (z : Byte) : Statement (.lsrZp z) := rfl
theorem lsrAcc : Statement .lsrAcc := rfl
theorem lsrAbs (a : Word) : Statement (.lsrAbs a) := rfl
theorem lsrZpx (z : Byte) : Statement (.lsrZpx z) := rfl
theorem lsrAbx (a : Word) : Statement (.lsrAbx a) := rfl
theorem rolZp (z : Byte) : Statement (.rolZp z) := rfl
theorem rolAcc : Statement .rolAcc := rfl
theorem rolAbs (a : Word) : Statement (.rolAbs a) := rfl
theorem rolZpx (z : Byte) : Statement (.rolZpx z) := rfl
theorem rolAbx (a : Word) : Statement (.rolAbx a) := rfl
theorem rorZp (z : Byte) : Statement (.rorZp z) := rfl
theorem rorAcc : Statement .rorAcc := rfl
theorem rorAbs (a : Word) : Statement (.rorAbs a) := rfl
theorem rorZpx (z : Byte) : Statement (.rorZpx z) := rfl
theorem rorAbx (a : Word) : Statement (.rorAbx a) := rfl
theorem jmpAbs (a : Word) : Statement (.jmpAbs a) := rfl
theorem jmpInd (a : Word) : Statement (.jmpInd a) := rfl
theorem jsrAbs (a : Word) : Statement (.jsrAbs a) := rfl
theorem rts : Statement .rts := rfl
theorem rti : Statement .rti := rfl
theorem brk : Statement .brk := rfl
theorem bpl (off : Int) : Statement (.bpl off) := rfl
theorem bmi (off : Int) : Statement (.bmi off) := rfl
theorem bvc (off : Int) : Statement (.bvc off) := rfl
theorem bvs (off : Int) : Statement (.bvs off) := rfl
theorem bcc (off : Int) : Statement (.bcc off) := rfl
theorem bcs (off : Int) : Statement (.bcs off) := rfl
theorem bne (off : Int) : Statement (.bne off) := rfl
theorem beq (off : Int) : Statement (.beq off) := rfl
theorem clc : Statement .clc := rfl
theorem sec : Statement .sec := rfl
theorem cli : Statement .cli := rfl
theorem sei : Statement .sei := rfl
theorem clv : Statement .clv := rfl
theorem cld : Statement .cld := rfl
theorem sed : Statement .sed := rfl
theorem nop : Statement .nop := rfl
theorem sloIzx (z : Byte) : Statement (.sloIzx z) := rfl
theorem sloZp (z : Byte) : Statement (.sloZp z) := rfl
theorem sloAbs (a : Word) : Statement (.sloAbs a) := rfl
theorem sloIzy (z : Byte) : Statement (.sloIzy z) := rfl
theorem sloZpx (z : Byte) : Statement (.sloZpx z) := rfl
theorem sloAby (a : Word) : Statement (.sloAby a) := rfl
theorem sloAbx (a : Word) : Statement (.sloAbx a) := rfl
theorem rlaIzx (z : Byte) : Statement (.rlaIzx z) := rfl
theorem rlaZp (z : Byte) : Statement (.rlaZp z) := rfl
theorem rlaAbs (a : Word) : Statement (.rlaAbs a) := rfl
theorem rlaIzy (z : Byte) : Statement (.rlaIzy z) := rfl
theorem rlaZpx (z : Byte) : Statement (.rlaZpx z) := rfl
theorem rlaAby (a : Word) : Statement (.rlaAby a) := rfl
theorem rlaAbx (a : Word) : Statement (.rlaAbx a) := rfl
theorem sreIzx (z : Byte) : Statement (.sreIzx z) := rfl
theorem sreZp (z : Byte) : Statement (.sreZp z) := rfl
theorem sreAbs (a : Word) : Statement (.sreAbs a) := rfl
theorem sreIzy (z : Byte) : Statement (.sreIzy z) := rfl
theorem sreZpx (z : Byte) : Statement (.sreZpx z) := rfl
theorem sreAby (a : Word) : Statement (.sreAby a) := rfl
theorem sreAbx (a : Word) : Statement (.sreAbx a) := rfl
theorem rraIzx (z : Byte) : Statement (.rraIzx z) := rfl
theorem rraZp (z : Byte) : Statement (.rraZp z) := rfl
theorem rraAbs (a : Word) : Statement (.rraAbs a) := rfl
theorem rraIzy (z : Byte) : Statement (.rraIzy z) := rfl
theorem rraZpx (z : Byte) : Statement (.rraZpx z) := rfl
theorem rraAby (a : Word) : Statement (.rraAby a) := rfl
theorem rraAbx (a : Word) : Statement (.rraAbx a) := rfl
theorem dcpIzx (z : Byte) : Statement (.dcpIzx z) := rfl
theorem dcpZp (z : Byte) : Statement (.dcpZp z) := rfl
theorem dcpAbs (a : Word) : Statement (.dcpAbs a) := rfl
theorem dcpIzy (z : Byte) : Statement (.dcpIzy z) := rfl
theorem dcpZpx (z : Byte) : Statement (.dcpZpx z) := rfl
theorem dcpAby (a : Word) : Statement (.dcpAby a) := rfl
theorem dcpAbx (a : Word) : Statement (.dcpAbx a) := rfl
theorem iscIzx (z : Byte) : Statement (.iscIzx z) := rfl
theorem iscZp (z : Byte) : Statement (.iscZp z) := rfl
theorem iscAbs (a : Word) : Statement (.iscAbs a) := rfl
theorem iscIzy (z : Byte) : Statement (.iscIzy z) := rfl
theorem iscZpx (z : Byte) : Statement (.iscZpx z) := rfl
theorem iscAby (a : Word) : Statement (.iscAby a) := rfl
theorem iscAbx (a : Word) : Statement (.iscAbx a) := rfl
theorem saxIzx (z : Byte) : Statement (.saxIzx z) := rfl
theorem saxZp (z : Byte) : Statement (.saxZp z) := rfl
theorem saxAbs (a : Word) : Statement (.saxAbs a) := rfl
theorem saxZpy (z : Byte) : Statement (.saxZpy z) := rfl
theorem laxIzx (z : Byte) : Statement (.laxIzx z) := rfl
theorem laxZp (z : Byte) : Statement (.laxZp z) := rfl
theorem laxAbs (a : Word) : Statement (.laxAbs a) := rfl
theorem laxIzy (z : Byte) : Statement (.laxIzy z) := rfl
theorem laxZpy (z : Byte) : Statement (.laxZpy z) := rfl
theorem laxAby (a : Word) : Statement (.laxAby a) := rfl
theorem ancImm0B (v : Byte) : Statement (.ancImm0B v) := rfl
theorem ancImm2B (v : Byte) : Statement (.ancImm2B v) := rfl
theorem alrImm (v : Byte) : Statement (.alrImm v) := rfl
theorem arrImm (v : Byte) : Statement (.arrImm v) := rfl
theorem sbxImm (v : Byte) : Statement (.sbxImm v) := rfl
theorem sbcImmEB (v : Byte) : Statement (.sbcImmEB v) := rfl
theorem nopZp04 (z : Byte) : Statement (.nopZp04 z) := rfl
theorem nopAbs0C (a : Word) : Statement (.nopAbs0C a) := rfl
theorem nopZpx14 (z : Byte) : Statement (.nopZpx14 z) := rfl
theorem nopImp1A : Statement .nopImp1A := rfl
theorem nopAbx1C (a : Word) : Statement (.nopAbx1C a) := rfl
theorem nopZpx34 (z : Byte) : Statement (.nopZpx34 z) := rfl
theorem nopImp3A : Statement .nopImp3A := rfl
theorem nopAbx3C (a : Word) : Statement (.nopAbx3C a) := rfl
theorem nopZp44 (z : Byte) : Statement (.nopZp44 z) := rfl
theorem nopZpx54 (z : Byte) : Statement (.nopZpx54 z) := rfl
theorem nopImp5A : Statement .nopImp5A := rfl
theorem nopAbx5C (a : Word) : Statement (.nopAbx5C a) := rfl
theorem nopZp64 (z : Byte) : Statement (.nopZp64 z) := rfl
theorem nopZpx74 (z : Byte) : Statement (.nopZpx74 z) := rfl
theorem nopImp7A : Statement .nopImp7A := rfl
theorem nopAbx7C (a : Word) : Statement (.nopAbx7C a) := rfl
theorem nopImm80 (v : Byte) : Statement (.nopImm80 v) := rfl
theorem nopImm82 (v : Byte) : Statement (.nopImm82 v) := rfl
theorem nopImm89 (v : Byte) : Statement (.nopImm89 v) := rfl
theorem nopImmC2 (v : Byte) : Statement (.nopImmC2 v) := rfl
theorem nopZpxD4 (z : Byte) : Statement (.nopZpxD4 z) := rfl
theorem nopImpDA : Statement .nopImpDA := rfl
theorem nopAbxDC (a : Word) : Statement (.nopAbxDC a) := rfl
theorem nopImmE2 (v : Byte) : Statement (.nopImmE2 v) := rfl
theorem nopZpxF4 (z : Byte) : Statement (.nopZpxF4 z) := rfl
theorem nopImpFA : Statement .nopImpFA := rfl
theorem nopAbxFC (a : Word) : Statement (.nopAbxFC a) := rfl
theorem jam02 : Statement .jam02 := rfl
theorem jam12 : Statement .jam12 := rfl
theorem jam22 : Statement .jam22 := rfl
theorem jam32 : Statement .jam32 := rfl
theorem jam42 : Statement .jam42 := rfl
theorem jam52 : Statement .jam52 := rfl
theorem jam62 : Statement .jam62 := rfl
theorem jam72 : Statement .jam72 := rfl
theorem jam92 : Statement .jam92 := rfl
theorem jamB2 : Statement .jamB2 := rfl
theorem jamD2 : Statement .jamD2 := rfl
theorem jamF2 : Statement .jamF2 := rfl
theorem aneImm : Statement .aneImm := rfl
theorem lxaImm : Statement .lxaImm := rfl
theorem shaIzy : Statement .shaIzy := rfl
theorem shaAby : Statement .shaAby := rfl
theorem shxAby : Statement .shxAby := rfl
theorem shyAbx : Statement .shyAbx := rfl
theorem tasAby : Statement .tasAby := rfl
theorem lasAby : Statement .lasAby := rfl

end Sys2Proof.Laws.EncodedLength
end

