-- ==== Sys2Proof/Tests/Slice0.lean ====
section
/-! SUPPORT. Tests and witnesses. The words of the decode tests are the matrix of R106 with the operand bytes
`$9A $12`. The expected values of the instruction and unit tests are the vectors of spec/95_test_vectors.md, whose
number each test has in its name (V40.3 is `test_V40_3`). `witness_<Name>` shows, for the statement
`Obligations.<Name>`, states and operands that meet its hypotheses, clause by clause, at the ends of their ranges. -/

namespace Sys2Proof.Tests

-- One theorem after another: the kernel's work of all at once would want too many threads.
set_option Elab.async false

open Sys2Proof.Machine Sys2Proof.Forms

-- Helpers

/-- The start state of the vectors: the launch state with `pc` at `$8000` (95_test_vectors.md section 0). -/
def base : State := { State.reset with pc := 0x8000 }

/-- A state with bytes placed in RAM and cartridge space. -/
def place (cs : List (Word × Byte)) (s : State) : State := cs.foldl (fun u c => placeByte c.1 c.2 u) s

/-- The byte stored at an address, 0 where there is none. -/
def byteAt (s : State) (a : Word) : Byte := (storedByte s a).getD 0

/-- The four arithmetic flags in the order of the vectors. -/
def nvzc (s : State) : Nat := s.n.toNat * 8 + s.v.toNat * 4 + s.z.toNat * 2 + s.c.toNat

/-- One instruction, its bytes placed at `pc`: it completes, and the state after passes the test. -/
def run1 (bytes : List Byte) (s : State) (p : State → Bool) : Bool :=
  match fetchInstr (placeBytes s.pc bytes s) with
  | .ok i t =>
    match exec i t with
    | .next u => p u
    | .fault _ => false
    | .refused _ => false
  | .stop _ _ => false

/-- One iteration answers a next state that passes the test. -/
def step1 (s : State) (p : State → Bool) : Bool :=
  match step s with
  | .next u => p u
  | .fault _ => false
  | .refused _ => false

/-- One iteration stops for this reason, in a state that passes the test. -/
def stops (s : State) (c : Fatal) (p : State → Bool) : Bool :=
  match step s with
  | .fault (.fatal d u) => decide (d = c) && p u
  | .fault (.halted _ _) => false
  | .next _ => false
  | .refused _ => false

/-- A completed access passes the test. -/
def okWith {α : Type} (r : Result α) (p : α → State → Bool) : Bool :=
  match r with
  | .ok w t => p w t
  | .stop _ _ => false

/-- A completed access. -/
def done {α : Type} (r : Result α) : Bool := okWith r fun _ _ => true

/-- A step that is safe answers a next state. -/
theorem next_of_safeStep {s : State} (h : safeStep s = true) : ∃ t, step s = .next t := by
  unfold safeStep at h
  split at h
  · exact ⟨_, ‹_›⟩
  · cases h
  · cases h

-- Well-formedness: a branch displacement that no byte holds is refused

theorem test_wf_refuses_above : [Instr.bpl (128), Instr.bmi (128), Instr.bvc (128), Instr.bvs (128), Instr.bcc (128), Instr.bcs (128), Instr.bne (128), Instr.beq (128)].all (fun i => !i.wf) = true := by decide

theorem test_wf_refuses_below : [Instr.bpl (-129), Instr.bmi (-129), Instr.bvc (-129), Instr.bvs (-129), Instr.bcc (-129), Instr.bcs (-129), Instr.bne (-129), Instr.beq (-129)].all (fun i => !i.wf) = true := by decide

theorem test_wf_accepts_ends : (Instr.bne (-128)).wf = true ∧ (Instr.bne 127).wf = true := by decide

-- Decoding: every row, by sixteens

theorem test_decode_0 :
    decode [0x00] = .ok (.brk, []) ∧
    decode [0x01, 0x9A] = .ok (.oraIzx 0x9A, []) ∧
    decode [0x02] = .ok (.jam02, []) ∧
    decode [0x03, 0x9A] = .ok (.sloIzx 0x9A, []) ∧
    decode [0x04, 0x9A] = .ok (.nopZp04 0x9A, []) ∧
    decode [0x05, 0x9A] = .ok (.oraZp 0x9A, []) ∧
    decode [0x06, 0x9A] = .ok (.aslZp 0x9A, []) ∧
    decode [0x07, 0x9A] = .ok (.sloZp 0x9A, []) ∧
    decode [0x08] = .ok (.php, []) ∧
    decode [0x09, 0x9A] = .ok (.oraImm 0x9A, []) ∧
    decode [0x0A] = .ok (.aslAcc, []) ∧
    decode [0x0B, 0x9A] = .ok (.ancImm0B 0x9A, []) ∧
    decode [0x0C, 0x9A, 0x12] = .ok (.nopAbs0C 0x129A, []) ∧
    decode [0x0D, 0x9A, 0x12] = .ok (.oraAbs 0x129A, []) ∧
    decode [0x0E, 0x9A, 0x12] = .ok (.aslAbs 0x129A, []) ∧
    decode [0x0F, 0x9A, 0x12] = .ok (.sloAbs 0x129A, []) := by
  exact ⟨rfl, rfl, rfl, rfl, rfl, rfl, rfl, rfl, rfl, rfl, rfl, rfl, rfl, rfl, rfl, rfl⟩

theorem test_decode_1 :
    decode [0x10, 0x9A] = .ok (.bpl (-102), []) ∧
    decode [0x11, 0x9A] = .ok (.oraIzy 0x9A, []) ∧
    decode [0x12] = .ok (.jam12, []) ∧
    decode [0x13, 0x9A] = .ok (.sloIzy 0x9A, []) ∧
    decode [0x14, 0x9A] = .ok (.nopZpx14 0x9A, []) ∧
    decode [0x15, 0x9A] = .ok (.oraZpx 0x9A, []) ∧
    decode [0x16, 0x9A] = .ok (.aslZpx 0x9A, []) ∧
    decode [0x17, 0x9A] = .ok (.sloZpx 0x9A, []) ∧
    decode [0x18] = .ok (.clc, []) ∧
    decode [0x19, 0x9A, 0x12] = .ok (.oraAby 0x129A, []) ∧
    decode [0x1A] = .ok (.nopImp1A, []) ∧
    decode [0x1B, 0x9A, 0x12] = .ok (.sloAby 0x129A, []) ∧
    decode [0x1C, 0x9A, 0x12] = .ok (.nopAbx1C 0x129A, []) ∧
    decode [0x1D, 0x9A, 0x12] = .ok (.oraAbx 0x129A, []) ∧
    decode [0x1E, 0x9A, 0x12] = .ok (.aslAbx 0x129A, []) ∧
    decode [0x1F, 0x9A, 0x12] = .ok (.sloAbx 0x129A, []) := by
  exact ⟨rfl, rfl, rfl, rfl, rfl, rfl, rfl, rfl, rfl, rfl, rfl, rfl, rfl, rfl, rfl, rfl⟩

theorem test_decode_2 :
    decode [0x20, 0x9A, 0x12] = .ok (.jsrAbs 0x129A, []) ∧
    decode [0x21, 0x9A] = .ok (.andIzx 0x9A, []) ∧
    decode [0x22] = .ok (.jam22, []) ∧
    decode [0x23, 0x9A] = .ok (.rlaIzx 0x9A, []) ∧
    decode [0x24, 0x9A] = .ok (.bitZp 0x9A, []) ∧
    decode [0x25, 0x9A] = .ok (.andZp 0x9A, []) ∧
    decode [0x26, 0x9A] = .ok (.rolZp 0x9A, []) ∧
    decode [0x27, 0x9A] = .ok (.rlaZp 0x9A, []) ∧
    decode [0x28] = .ok (.plp, []) ∧
    decode [0x29, 0x9A] = .ok (.andImm 0x9A, []) ∧
    decode [0x2A] = .ok (.rolAcc, []) ∧
    decode [0x2B, 0x9A] = .ok (.ancImm2B 0x9A, []) ∧
    decode [0x2C, 0x9A, 0x12] = .ok (.bitAbs 0x129A, []) ∧
    decode [0x2D, 0x9A, 0x12] = .ok (.andAbs 0x129A, []) ∧
    decode [0x2E, 0x9A, 0x12] = .ok (.rolAbs 0x129A, []) ∧
    decode [0x2F, 0x9A, 0x12] = .ok (.rlaAbs 0x129A, []) := by
  exact ⟨rfl, rfl, rfl, rfl, rfl, rfl, rfl, rfl, rfl, rfl, rfl, rfl, rfl, rfl, rfl, rfl⟩

theorem test_decode_3 :
    decode [0x30, 0x9A] = .ok (.bmi (-102), []) ∧
    decode [0x31, 0x9A] = .ok (.andIzy 0x9A, []) ∧
    decode [0x32] = .ok (.jam32, []) ∧
    decode [0x33, 0x9A] = .ok (.rlaIzy 0x9A, []) ∧
    decode [0x34, 0x9A] = .ok (.nopZpx34 0x9A, []) ∧
    decode [0x35, 0x9A] = .ok (.andZpx 0x9A, []) ∧
    decode [0x36, 0x9A] = .ok (.rolZpx 0x9A, []) ∧
    decode [0x37, 0x9A] = .ok (.rlaZpx 0x9A, []) ∧
    decode [0x38] = .ok (.sec, []) ∧
    decode [0x39, 0x9A, 0x12] = .ok (.andAby 0x129A, []) ∧
    decode [0x3A] = .ok (.nopImp3A, []) ∧
    decode [0x3B, 0x9A, 0x12] = .ok (.rlaAby 0x129A, []) ∧
    decode [0x3C, 0x9A, 0x12] = .ok (.nopAbx3C 0x129A, []) ∧
    decode [0x3D, 0x9A, 0x12] = .ok (.andAbx 0x129A, []) ∧
    decode [0x3E, 0x9A, 0x12] = .ok (.rolAbx 0x129A, []) ∧
    decode [0x3F, 0x9A, 0x12] = .ok (.rlaAbx 0x129A, []) := by
  exact ⟨rfl, rfl, rfl, rfl, rfl, rfl, rfl, rfl, rfl, rfl, rfl, rfl, rfl, rfl, rfl, rfl⟩

theorem test_decode_4 :
    decode [0x40] = .ok (.rti, []) ∧
    decode [0x41, 0x9A] = .ok (.eorIzx 0x9A, []) ∧
    decode [0x42] = .ok (.jam42, []) ∧
    decode [0x43, 0x9A] = .ok (.sreIzx 0x9A, []) ∧
    decode [0x44, 0x9A] = .ok (.nopZp44 0x9A, []) ∧
    decode [0x45, 0x9A] = .ok (.eorZp 0x9A, []) ∧
    decode [0x46, 0x9A] = .ok (.lsrZp 0x9A, []) ∧
    decode [0x47, 0x9A] = .ok (.sreZp 0x9A, []) ∧
    decode [0x48] = .ok (.pha, []) ∧
    decode [0x49, 0x9A] = .ok (.eorImm 0x9A, []) ∧
    decode [0x4A] = .ok (.lsrAcc, []) ∧
    decode [0x4B, 0x9A] = .ok (.alrImm 0x9A, []) ∧
    decode [0x4C, 0x9A, 0x12] = .ok (.jmpAbs 0x129A, []) ∧
    decode [0x4D, 0x9A, 0x12] = .ok (.eorAbs 0x129A, []) ∧
    decode [0x4E, 0x9A, 0x12] = .ok (.lsrAbs 0x129A, []) ∧
    decode [0x4F, 0x9A, 0x12] = .ok (.sreAbs 0x129A, []) := by
  exact ⟨rfl, rfl, rfl, rfl, rfl, rfl, rfl, rfl, rfl, rfl, rfl, rfl, rfl, rfl, rfl, rfl⟩

theorem test_decode_5 :
    decode [0x50, 0x9A] = .ok (.bvc (-102), []) ∧
    decode [0x51, 0x9A] = .ok (.eorIzy 0x9A, []) ∧
    decode [0x52] = .ok (.jam52, []) ∧
    decode [0x53, 0x9A] = .ok (.sreIzy 0x9A, []) ∧
    decode [0x54, 0x9A] = .ok (.nopZpx54 0x9A, []) ∧
    decode [0x55, 0x9A] = .ok (.eorZpx 0x9A, []) ∧
    decode [0x56, 0x9A] = .ok (.lsrZpx 0x9A, []) ∧
    decode [0x57, 0x9A] = .ok (.sreZpx 0x9A, []) ∧
    decode [0x58] = .ok (.cli, []) ∧
    decode [0x59, 0x9A, 0x12] = .ok (.eorAby 0x129A, []) ∧
    decode [0x5A] = .ok (.nopImp5A, []) ∧
    decode [0x5B, 0x9A, 0x12] = .ok (.sreAby 0x129A, []) ∧
    decode [0x5C, 0x9A, 0x12] = .ok (.nopAbx5C 0x129A, []) ∧
    decode [0x5D, 0x9A, 0x12] = .ok (.eorAbx 0x129A, []) ∧
    decode [0x5E, 0x9A, 0x12] = .ok (.lsrAbx 0x129A, []) ∧
    decode [0x5F, 0x9A, 0x12] = .ok (.sreAbx 0x129A, []) := by
  exact ⟨rfl, rfl, rfl, rfl, rfl, rfl, rfl, rfl, rfl, rfl, rfl, rfl, rfl, rfl, rfl, rfl⟩

theorem test_decode_6 :
    decode [0x60] = .ok (.rts, []) ∧
    decode [0x61, 0x9A] = .ok (.adcIzx 0x9A, []) ∧
    decode [0x62] = .ok (.jam62, []) ∧
    decode [0x63, 0x9A] = .ok (.rraIzx 0x9A, []) ∧
    decode [0x64, 0x9A] = .ok (.nopZp64 0x9A, []) ∧
    decode [0x65, 0x9A] = .ok (.adcZp 0x9A, []) ∧
    decode [0x66, 0x9A] = .ok (.rorZp 0x9A, []) ∧
    decode [0x67, 0x9A] = .ok (.rraZp 0x9A, []) ∧
    decode [0x68] = .ok (.pla, []) ∧
    decode [0x69, 0x9A] = .ok (.adcImm 0x9A, []) ∧
    decode [0x6A] = .ok (.rorAcc, []) ∧
    decode [0x6B, 0x9A] = .ok (.arrImm 0x9A, []) ∧
    decode [0x6C, 0x9A, 0x12] = .ok (.jmpInd 0x129A, []) ∧
    decode [0x6D, 0x9A, 0x12] = .ok (.adcAbs 0x129A, []) ∧
    decode [0x6E, 0x9A, 0x12] = .ok (.rorAbs 0x129A, []) ∧
    decode [0x6F, 0x9A, 0x12] = .ok (.rraAbs 0x129A, []) := by
  exact ⟨rfl, rfl, rfl, rfl, rfl, rfl, rfl, rfl, rfl, rfl, rfl, rfl, rfl, rfl, rfl, rfl⟩

theorem test_decode_7 :
    decode [0x70, 0x9A] = .ok (.bvs (-102), []) ∧
    decode [0x71, 0x9A] = .ok (.adcIzy 0x9A, []) ∧
    decode [0x72] = .ok (.jam72, []) ∧
    decode [0x73, 0x9A] = .ok (.rraIzy 0x9A, []) ∧
    decode [0x74, 0x9A] = .ok (.nopZpx74 0x9A, []) ∧
    decode [0x75, 0x9A] = .ok (.adcZpx 0x9A, []) ∧
    decode [0x76, 0x9A] = .ok (.rorZpx 0x9A, []) ∧
    decode [0x77, 0x9A] = .ok (.rraZpx 0x9A, []) ∧
    decode [0x78] = .ok (.sei, []) ∧
    decode [0x79, 0x9A, 0x12] = .ok (.adcAby 0x129A, []) ∧
    decode [0x7A] = .ok (.nopImp7A, []) ∧
    decode [0x7B, 0x9A, 0x12] = .ok (.rraAby 0x129A, []) ∧
    decode [0x7C, 0x9A, 0x12] = .ok (.nopAbx7C 0x129A, []) ∧
    decode [0x7D, 0x9A, 0x12] = .ok (.adcAbx 0x129A, []) ∧
    decode [0x7E, 0x9A, 0x12] = .ok (.rorAbx 0x129A, []) ∧
    decode [0x7F, 0x9A, 0x12] = .ok (.rraAbx 0x129A, []) := by
  exact ⟨rfl, rfl, rfl, rfl, rfl, rfl, rfl, rfl, rfl, rfl, rfl, rfl, rfl, rfl, rfl, rfl⟩

theorem test_decode_8 :
    decode [0x80, 0x9A] = .ok (.nopImm80 0x9A, []) ∧
    decode [0x81, 0x9A] = .ok (.staIzx 0x9A, []) ∧
    decode [0x82, 0x9A] = .ok (.nopImm82 0x9A, []) ∧
    decode [0x83, 0x9A] = .ok (.saxIzx 0x9A, []) ∧
    decode [0x84, 0x9A] = .ok (.styZp 0x9A, []) ∧
    decode [0x85, 0x9A] = .ok (.staZp 0x9A, []) ∧
    decode [0x86, 0x9A] = .ok (.stxZp 0x9A, []) ∧
    decode [0x87, 0x9A] = .ok (.saxZp 0x9A, []) ∧
    decode [0x88] = .ok (.dey, []) ∧
    decode [0x89, 0x9A] = .ok (.nopImm89 0x9A, []) ∧
    decode [0x8A] = .ok (.txa, []) ∧
    decode [0x8B] = .ok (.aneImm, []) ∧
    decode [0x8C, 0x9A, 0x12] = .ok (.styAbs 0x129A, []) ∧
    decode [0x8D, 0x9A, 0x12] = .ok (.staAbs 0x129A, []) ∧
    decode [0x8E, 0x9A, 0x12] = .ok (.stxAbs 0x129A, []) ∧
    decode [0x8F, 0x9A, 0x12] = .ok (.saxAbs 0x129A, []) := by
  exact ⟨rfl, rfl, rfl, rfl, rfl, rfl, rfl, rfl, rfl, rfl, rfl, rfl, rfl, rfl, rfl, rfl⟩

theorem test_decode_9 :
    decode [0x90, 0x9A] = .ok (.bcc (-102), []) ∧
    decode [0x91, 0x9A] = .ok (.staIzy 0x9A, []) ∧
    decode [0x92] = .ok (.jam92, []) ∧
    decode [0x93] = .ok (.shaIzy, []) ∧
    decode [0x94, 0x9A] = .ok (.styZpx 0x9A, []) ∧
    decode [0x95, 0x9A] = .ok (.staZpx 0x9A, []) ∧
    decode [0x96, 0x9A] = .ok (.stxZpy 0x9A, []) ∧
    decode [0x97, 0x9A] = .ok (.saxZpy 0x9A, []) ∧
    decode [0x98] = .ok (.tya, []) ∧
    decode [0x99, 0x9A, 0x12] = .ok (.staAby 0x129A, []) ∧
    decode [0x9A] = .ok (.txs, []) ∧
    decode [0x9B] = .ok (.tasAby, []) ∧
    decode [0x9C] = .ok (.shyAbx, []) ∧
    decode [0x9D, 0x9A, 0x12] = .ok (.staAbx 0x129A, []) ∧
    decode [0x9E] = .ok (.shxAby, []) ∧
    decode [0x9F] = .ok (.shaAby, []) := by
  exact ⟨rfl, rfl, rfl, rfl, rfl, rfl, rfl, rfl, rfl, rfl, rfl, rfl, rfl, rfl, rfl, rfl⟩

theorem test_decode_A :
    decode [0xA0, 0x9A] = .ok (.ldyImm 0x9A, []) ∧
    decode [0xA1, 0x9A] = .ok (.ldaIzx 0x9A, []) ∧
    decode [0xA2, 0x9A] = .ok (.ldxImm 0x9A, []) ∧
    decode [0xA3, 0x9A] = .ok (.laxIzx 0x9A, []) ∧
    decode [0xA4, 0x9A] = .ok (.ldyZp 0x9A, []) ∧
    decode [0xA5, 0x9A] = .ok (.ldaZp 0x9A, []) ∧
    decode [0xA6, 0x9A] = .ok (.ldxZp 0x9A, []) ∧
    decode [0xA7, 0x9A] = .ok (.laxZp 0x9A, []) ∧
    decode [0xA8] = .ok (.tay, []) ∧
    decode [0xA9, 0x9A] = .ok (.ldaImm 0x9A, []) ∧
    decode [0xAA] = .ok (.tax, []) ∧
    decode [0xAB] = .ok (.lxaImm, []) ∧
    decode [0xAC, 0x9A, 0x12] = .ok (.ldyAbs 0x129A, []) ∧
    decode [0xAD, 0x9A, 0x12] = .ok (.ldaAbs 0x129A, []) ∧
    decode [0xAE, 0x9A, 0x12] = .ok (.ldxAbs 0x129A, []) ∧
    decode [0xAF, 0x9A, 0x12] = .ok (.laxAbs 0x129A, []) := by
  exact ⟨rfl, rfl, rfl, rfl, rfl, rfl, rfl, rfl, rfl, rfl, rfl, rfl, rfl, rfl, rfl, rfl⟩

theorem test_decode_B :
    decode [0xB0, 0x9A] = .ok (.bcs (-102), []) ∧
    decode [0xB1, 0x9A] = .ok (.ldaIzy 0x9A, []) ∧
    decode [0xB2] = .ok (.jamB2, []) ∧
    decode [0xB3, 0x9A] = .ok (.laxIzy 0x9A, []) ∧
    decode [0xB4, 0x9A] = .ok (.ldyZpx 0x9A, []) ∧
    decode [0xB5, 0x9A] = .ok (.ldaZpx 0x9A, []) ∧
    decode [0xB6, 0x9A] = .ok (.ldxZpy 0x9A, []) ∧
    decode [0xB7, 0x9A] = .ok (.laxZpy 0x9A, []) ∧
    decode [0xB8] = .ok (.clv, []) ∧
    decode [0xB9, 0x9A, 0x12] = .ok (.ldaAby 0x129A, []) ∧
    decode [0xBA] = .ok (.tsx, []) ∧
    decode [0xBB] = .ok (.lasAby, []) ∧
    decode [0xBC, 0x9A, 0x12] = .ok (.ldyAbx 0x129A, []) ∧
    decode [0xBD, 0x9A, 0x12] = .ok (.ldaAbx 0x129A, []) ∧
    decode [0xBE, 0x9A, 0x12] = .ok (.ldxAby 0x129A, []) ∧
    decode [0xBF, 0x9A, 0x12] = .ok (.laxAby 0x129A, []) := by
  exact ⟨rfl, rfl, rfl, rfl, rfl, rfl, rfl, rfl, rfl, rfl, rfl, rfl, rfl, rfl, rfl, rfl⟩

theorem test_decode_C :
    decode [0xC0, 0x9A] = .ok (.cpyImm 0x9A, []) ∧
    decode [0xC1, 0x9A] = .ok (.cmpIzx 0x9A, []) ∧
    decode [0xC2, 0x9A] = .ok (.nopImmC2 0x9A, []) ∧
    decode [0xC3, 0x9A] = .ok (.dcpIzx 0x9A, []) ∧
    decode [0xC4, 0x9A] = .ok (.cpyZp 0x9A, []) ∧
    decode [0xC5, 0x9A] = .ok (.cmpZp 0x9A, []) ∧
    decode [0xC6, 0x9A] = .ok (.decZp 0x9A, []) ∧
    decode [0xC7, 0x9A] = .ok (.dcpZp 0x9A, []) ∧
    decode [0xC8] = .ok (.iny, []) ∧
    decode [0xC9, 0x9A] = .ok (.cmpImm 0x9A, []) ∧
    decode [0xCA] = .ok (.dex, []) ∧
    decode [0xCB, 0x9A] = .ok (.sbxImm 0x9A, []) ∧
    decode [0xCC, 0x9A, 0x12] = .ok (.cpyAbs 0x129A, []) ∧
    decode [0xCD, 0x9A, 0x12] = .ok (.cmpAbs 0x129A, []) ∧
    decode [0xCE, 0x9A, 0x12] = .ok (.decAbs 0x129A, []) ∧
    decode [0xCF, 0x9A, 0x12] = .ok (.dcpAbs 0x129A, []) := by
  exact ⟨rfl, rfl, rfl, rfl, rfl, rfl, rfl, rfl, rfl, rfl, rfl, rfl, rfl, rfl, rfl, rfl⟩

theorem test_decode_D :
    decode [0xD0, 0x9A] = .ok (.bne (-102), []) ∧
    decode [0xD1, 0x9A] = .ok (.cmpIzy 0x9A, []) ∧
    decode [0xD2] = .ok (.jamD2, []) ∧
    decode [0xD3, 0x9A] = .ok (.dcpIzy 0x9A, []) ∧
    decode [0xD4, 0x9A] = .ok (.nopZpxD4 0x9A, []) ∧
    decode [0xD5, 0x9A] = .ok (.cmpZpx 0x9A, []) ∧
    decode [0xD6, 0x9A] = .ok (.decZpx 0x9A, []) ∧
    decode [0xD7, 0x9A] = .ok (.dcpZpx 0x9A, []) ∧
    decode [0xD8] = .ok (.cld, []) ∧
    decode [0xD9, 0x9A, 0x12] = .ok (.cmpAby 0x129A, []) ∧
    decode [0xDA] = .ok (.nopImpDA, []) ∧
    decode [0xDB, 0x9A, 0x12] = .ok (.dcpAby 0x129A, []) ∧
    decode [0xDC, 0x9A, 0x12] = .ok (.nopAbxDC 0x129A, []) ∧
    decode [0xDD, 0x9A, 0x12] = .ok (.cmpAbx 0x129A, []) ∧
    decode [0xDE, 0x9A, 0x12] = .ok (.decAbx 0x129A, []) ∧
    decode [0xDF, 0x9A, 0x12] = .ok (.dcpAbx 0x129A, []) := by
  exact ⟨rfl, rfl, rfl, rfl, rfl, rfl, rfl, rfl, rfl, rfl, rfl, rfl, rfl, rfl, rfl, rfl⟩

theorem test_decode_E :
    decode [0xE0, 0x9A] = .ok (.cpxImm 0x9A, []) ∧
    decode [0xE1, 0x9A] = .ok (.sbcIzx 0x9A, []) ∧
    decode [0xE2, 0x9A] = .ok (.nopImmE2 0x9A, []) ∧
    decode [0xE3, 0x9A] = .ok (.iscIzx 0x9A, []) ∧
    decode [0xE4, 0x9A] = .ok (.cpxZp 0x9A, []) ∧
    decode [0xE5, 0x9A] = .ok (.sbcZp 0x9A, []) ∧
    decode [0xE6, 0x9A] = .ok (.incZp 0x9A, []) ∧
    decode [0xE7, 0x9A] = .ok (.iscZp 0x9A, []) ∧
    decode [0xE8] = .ok (.inx, []) ∧
    decode [0xE9, 0x9A] = .ok (.sbcImm 0x9A, []) ∧
    decode [0xEA] = .ok (.nop, []) ∧
    decode [0xEB, 0x9A] = .ok (.sbcImmEB 0x9A, []) ∧
    decode [0xEC, 0x9A, 0x12] = .ok (.cpxAbs 0x129A, []) ∧
    decode [0xED, 0x9A, 0x12] = .ok (.sbcAbs 0x129A, []) ∧
    decode [0xEE, 0x9A, 0x12] = .ok (.incAbs 0x129A, []) ∧
    decode [0xEF, 0x9A, 0x12] = .ok (.iscAbs 0x129A, []) := by
  exact ⟨rfl, rfl, rfl, rfl, rfl, rfl, rfl, rfl, rfl, rfl, rfl, rfl, rfl, rfl, rfl, rfl⟩

theorem test_decode_F :
    decode [0xF0, 0x9A] = .ok (.beq (-102), []) ∧
    decode [0xF1, 0x9A] = .ok (.sbcIzy 0x9A, []) ∧
    decode [0xF2] = .ok (.jamF2, []) ∧
    decode [0xF3, 0x9A] = .ok (.iscIzy 0x9A, []) ∧
    decode [0xF4, 0x9A] = .ok (.nopZpxF4 0x9A, []) ∧
    decode [0xF5, 0x9A] = .ok (.sbcZpx 0x9A, []) ∧
    decode [0xF6, 0x9A] = .ok (.incZpx 0x9A, []) ∧
    decode [0xF7, 0x9A] = .ok (.iscZpx 0x9A, []) ∧
    decode [0xF8] = .ok (.sed, []) ∧
    decode [0xF9, 0x9A, 0x12] = .ok (.sbcAby 0x129A, []) ∧
    decode [0xFA] = .ok (.nopImpFA, []) ∧
    decode [0xFB, 0x9A, 0x12] = .ok (.iscAby 0x129A, []) ∧
    decode [0xFC, 0x9A, 0x12] = .ok (.nopAbxFC 0x129A, []) ∧
    decode [0xFD, 0x9A, 0x12] = .ok (.sbcAbx 0x129A, []) ∧
    decode [0xFE, 0x9A, 0x12] = .ok (.incAbx 0x129A, []) ∧
    decode [0xFF, 0x9A, 0x12] = .ok (.iscAbx 0x129A, []) := by
  exact ⟨rfl, rfl, rfl, rfl, rfl, rfl, rfl, rfl, rfl, rfl, rfl, rfl, rfl, rfl, rfl, rfl⟩

/-- The second word of a table row counts on from bit 8; missing operand bytes are zeros. -/
theorem test_decodeTableWord : decodeTableWord 24 0x1234AD = some (.ldaAbs 0x1234) ∧
    decodeTableWord 8 0xD0 = some (.bne 0) ∧ decodeTableWord 16 0x80D0 = some (.bne (-128)) := by
  exact ⟨rfl, rfl, rfl⟩

/-- A string that ends inside an instruction is refused. -/
theorem test_decode_short : (decode []).isOk = false ∧ (decode [0xA9]).isOk = false ∧
    (decode [0xAD, 0x00]).isOk = false := by
  exact ⟨rfl, rfl, rfl⟩

-- Instructions: 95_test_vectors.md sections 2.2 to 2.5

theorem test_V40_3 : run1 [0xB5, 0xF0] (place [(0x0010, 0x77)] { base with x := 0x20 })
    (fun u => u.a == 0x77 && u.pc == 0x8002 && nvzc u == 0b0000 && u.cyc == 4) = true := by decide +kernel

theorem test_V40_7 : run1 [0xB1, 0xFF] (place [(0x00FF, 0xF8), (0x0000, 0x02), (0x0308, 0x99)] { base with y := 0x10 })
    (fun u => u.a == 0x99 && u.pc == 0x8002 && nvzc u == 0b1000 && u.cyc == 6) = true := by decide +kernel

theorem test_V40_8 : run1 [0xB6, 0xF8] (place [(0x0008, 0x00)] { base with y := 0x10, x := 0x03 })
    (fun u => u.x == 0x00 && u.pc == 0x8002 && nvzc u == 0b0010 && u.cyc == 4) = true := by decide +kernel

theorem test_V40_9 : run1 [0xAC, 0x34, 0x12] (place [(0x0234, 0x7F)] base)
    (fun u => u.y == 0x7F && u.pc == 0x8003 && nvzc u == 0b0000 && u.cyc == 4) = true := by decide +kernel

theorem test_V40_10 : run1 [0x8D, 0x01, 0x08] { base with a := 0xC3 }
    (fun u => byteAt u 0x0001 == 0xC3 && u.pc == 0x8003 && nvzc u == 0b0000 && u.cyc == 4) = true := by decide +kernel

theorem test_V40_12 : run1 [0x91, 0x10] (place [(0x0010, 0x01), (0x0011, 0x02)] { base with a := 0x22, y := 0xFF })
    (fun u => byteAt u 0x0300 == 0x22 && u.pc == 0x8002 && nvzc u == 0b0000 && u.cyc == 6) = true := by decide +kernel

theorem test_V40_13 : run1 [0x96, 0x10] { base with x := 0x33, y := 0x01 }
    (fun u => byteAt u 0x0011 == 0x33 && u.pc == 0x8002 && nvzc u == 0b0000 && u.cyc == 4) = true := by decide +kernel

theorem test_V40_14 : run1 [0x8C, 0x00, 0x90] { base with y := 0x44 }
    (fun u => byteAt u 0x9000 == 0x44 && u.pc == 0x8003 && nvzc u == 0b0000 && u.cyc == 4) = true := by decide +kernel

theorem test_V40_15 : run1 [0xAA] { base with a := 0x80 }
    (fun u => u.x == 0x80 && u.pc == 0x8001 && nvzc u == 0b1000 && u.cyc == 2) = true := by decide +kernel

theorem test_V40_16 : run1 [0x9A] { base with x := 0x00, z := false }
    (fun u => u.sp == 0x00 && u.pc == 0x8001 && nvzc u == 0b0000 && u.cyc == 2) = true := by decide +kernel

theorem test_V40_17 : run1 [0xBA] base
    (fun u => u.x == 0xFD && u.pc == 0x8001 && nvzc u == 0b1000 && u.cyc == 2) = true := by decide +kernel

theorem test_V40_18 : run1 [0x98] { base with a := 0x01, y := 0x00 }
    (fun u => u.a == 0x00 && u.pc == 0x8001 && nvzc u == 0b0010 && u.cyc == 2) = true := by decide +kernel

theorem test_V40_19 : run1 [0x48] { base with a := 0xAB, sp := 0x00 }
    (fun u => u.sp == 0xFF && byteAt u 0x0100 == 0xAB && u.pc == 0x8001 && nvzc u == 0b0000 && u.cyc == 3) = true := by decide +kernel

theorem test_V40_20 : run1 [0x68] (place [(0x0100, 0x00)] { base with sp := 0xFF })
    (fun u => u.sp == 0x00 && u.pc == 0x8001 && nvzc u == 0b0010 && u.cyc == 4) = true := by decide +kernel

theorem test_V40_21 : run1 [0x08] base
    (fun u => u.sp == 0xFC && byteAt u 0x01FD == 0x34 && u.pc == 0x8001 && nvzc u == 0b0000 && u.cyc == 3) = true := by decide +kernel

theorem test_V40_22 : run1 [0x08] { base with n := true, v := true, d := true, i := true, z := true, c := true }
    (fun u => u.sp == 0xFC && byteAt u 0x01FD == 0xFF && u.pc == 0x8001 && nvzc u == 0b1111 && u.cyc == 3) = true := by decide +kernel

theorem test_V40_23 : run1 [0x28] (place [(0x01FE, 0xFF)] base)
    (fun u => u.sp == 0xFE && u.d && u.pc == 0x8001 && nvzc u == 0b1111 && u.cyc == 4) = true := by decide +kernel

theorem test_V40_24 : run1 [0x28] (place [(0x01FE, 0x00)] { base with n := true, c := true })
    (fun u => u.sp == 0xFE && !u.i && u.pc == 0x8001 && nvzc u == 0b0000 && u.cyc == 4) = true := by decide +kernel

theorem test_V41_2 : run1 [0x69, 0x80] { base with a := 0x80 }
    (fun u => u.a == 0x00 && u.pc == 0x8002 && nvzc u == 0b0111 && u.cyc == 2) = true := by decide +kernel

theorem test_V41_4 : run1 [0x69, 0x99] { base with a := 0x01, d := true }
    (fun u => u.a == 0x9A && u.pc == 0x8002 && nvzc u == 0b1000 && u.cyc == 2) = true := by decide +kernel

theorem test_V41_6 : run1 [0xE9, 0x01] { base with a := 0x00, c := true }
    (fun u => u.a == 0xFF && u.pc == 0x8002 && nvzc u == 0b1000 && u.cyc == 2) = true := by decide +kernel

theorem test_V41_7 : run1 [0xE9, 0x01] { base with a := 0x80, c := true }
    (fun u => u.a == 0x7F && u.pc == 0x8002 && nvzc u == 0b0101 && u.cyc == 2) = true := by decide +kernel

theorem test_V41_10 : run1 [0x29, 0x0F] { base with a := 0xF0 }
    (fun u => u.a == 0x00 && u.pc == 0x8002 && nvzc u == 0b0010 && u.cyc == 2) = true := by decide +kernel

theorem test_V41_11 : run1 [0x15, 0x10] (place [(0x0011, 0x80)] { base with a := 0x01, x := 0x01 })
    (fun u => u.a == 0x81 && u.pc == 0x8002 && nvzc u == 0b1000 && u.cyc == 4) = true := by decide +kernel

theorem test_V41_12 : run1 [0x49, 0xFF] { base with a := 0xFF }
    (fun u => u.a == 0x00 && u.pc == 0x8002 && nvzc u == 0b0010 && u.cyc == 2) = true := by decide +kernel

theorem test_V41_13 : run1 [0xC9, 0x41] { base with a := 0x40 }
    (fun u => u.pc == 0x8002 && nvzc u == 0b1000 && u.cyc == 2) = true := by decide +kernel

theorem test_V41_15 : run1 [0xC9, 0x00] { base with a := 0x80, v := true }
    (fun u => u.pc == 0x8002 && nvzc u == 0b1101 && u.cyc == 2) = true := by decide +kernel

theorem test_V41_16 : run1 [0xE0, 0xFF] { base with x := 0x00 }
    (fun u => u.pc == 0x8002 && nvzc u == 0b0000 && u.cyc == 2) = true := by decide +kernel

theorem test_V41_17 : run1 [0xC4, 0x10] (place [(0x0010, 0x10)] { base with y := 0x90 })
    (fun u => u.pc == 0x8002 && nvzc u == 0b1001 && u.cyc == 3) = true := by decide +kernel

theorem test_V41_18 : run1 [0x24, 0x10] (place [(0x0010, 0xC0)] { base with a := 0x01 })
    (fun u => u.pc == 0x8002 && nvzc u == 0b1110 && u.cyc == 3) = true := by decide +kernel

theorem test_V41_19 : run1 [0x24, 0x10] (place [(0x0010, 0x3F)] { base with a := 0xFF, n := true, v := true })
    (fun u => u.pc == 0x8002 && nvzc u == 0b0000 && u.cyc == 3) = true := by decide +kernel

theorem test_V41_20 : run1 [0x0A] { base with a := 0x81 }
    (fun u => u.a == 0x02 && u.pc == 0x8001 && nvzc u == 0b0001 && u.cyc == 2) = true := by decide +kernel

theorem test_V41_21 : run1 [0x4A] { base with a := 0x01 }
    (fun u => u.a == 0x00 && u.pc == 0x8001 && nvzc u == 0b0011 && u.cyc == 2) = true := by decide +kernel

theorem test_V41_22 : run1 [0x2A] { base with a := 0x80, c := true }
    (fun u => u.a == 0x01 && u.pc == 0x8001 && nvzc u == 0b0001 && u.cyc == 2) = true := by decide +kernel

theorem test_V41_23 : run1 [0x6A] { base with a := 0x01, c := true }
    (fun u => u.a == 0x80 && u.pc == 0x8001 && nvzc u == 0b1001 && u.cyc == 2) = true := by decide +kernel

theorem test_V41_24 : run1 [0x06, 0x10] (place [(0x0010, 0x40)] base)
    (fun u => byteAt u 0x0010 == 0x80 && u.pc == 0x8002 && nvzc u == 0b1000 && u.cyc == 5) = true := by decide +kernel

theorem test_V41_25 : run1 [0x7E, 0x10, 0x02] (place [(0x0300, 0x02)] { base with x := 0xF0, c := false })
    (fun u => byteAt u 0x0300 == 0x01 && u.pc == 0x8003 && nvzc u == 0b0000 && u.cyc == 7) = true := by decide +kernel

theorem test_V41_26 : run1 [0xE6, 0x10] (place [(0x0010, 0xFF)] base)
    (fun u => byteAt u 0x0010 == 0x00 && u.pc == 0x8002 && nvzc u == 0b0010 && u.cyc == 5) = true := by decide +kernel

theorem test_V41_27 : run1 [0xC6, 0x10] (place [(0x0010, 0x00)] base)
    (fun u => byteAt u 0x0010 == 0xFF && u.pc == 0x8002 && nvzc u == 0b1000 && u.cyc == 5) = true := by decide +kernel

theorem test_V41_28 : run1 [0xE8] { base with x := 0x7F }
    (fun u => u.x == 0x80 && u.pc == 0x8001 && nvzc u == 0b1000 && u.cyc == 2) = true := by decide +kernel

theorem test_V41_29 : run1 [0x88] { base with y := 0x01 }
    (fun u => u.y == 0x00 && u.pc == 0x8001 && nvzc u == 0b0010 && u.cyc == 2) = true := by decide +kernel

theorem test_V41_30 : run1 [0xC8] { base with y := 0xFF }
    (fun u => u.y == 0x00 && u.pc == 0x8001 && nvzc u == 0b0010 && u.cyc == 2) = true := by decide +kernel

theorem test_V41_31 : run1 [0xCA] { base with x := 0x00 }
    (fun u => u.x == 0xFF && u.pc == 0x8001 && nvzc u == 0b1000 && u.cyc == 2) = true := by decide +kernel

theorem test_V42_1 : run1 [0x4C, 0x34, 0x12] base
    (fun u => u.pc == 0x1234 && nvzc u == 0b0000 && u.cyc == 3) = true := by decide +kernel

theorem test_V42_2 : run1 [0x6C, 0xFF, 0x02] (place [(0x02FF, 0x34), (0x0200, 0x12), (0x0300, 0x56)] base)
    (fun u => u.pc == 0x1234 && nvzc u == 0b0000 && u.cyc == 5) = true := by decide +kernel

theorem test_V42_3 : run1 [0x6C, 0x80, 0x02] (place [(0x0280, 0xCD), (0x0281, 0xAB)] base)
    (fun u => u.pc == 0xABCD && nvzc u == 0b0000 && u.cyc == 5) = true := by decide +kernel

theorem test_V42_4 : run1 [0x20, 0x00, 0x90] { base with pc := 0x80FE }
    (fun u => u.sp == 0xFB && byteAt u 0x01FC == 0x00 && byteAt u 0x01FD == 0x81 && u.pc == 0x9000 && nvzc u == 0b0000 && u.cyc == 6) = true := by decide +kernel

theorem test_V42_5 : run1 [0x60] (place [(0x01FC, 0x00), (0x01FD, 0x81)] { base with sp := 0xFB })
    (fun u => u.sp == 0xFD && u.pc == 0x8101 && nvzc u == 0b0000 && u.cyc == 6) = true := by decide +kernel

theorem test_V42_7 : run1 [0x40] (place [(0x01FB, 0xF3), (0x01FC, 0x34), (0x01FD, 0x12)] { base with sp := 0xFA })
    (fun u => u.sp == 0xFD && !u.i && u.pc == 0x1234 && nvzc u == 0b1111 && u.cyc == 6) = true := by decide +kernel

theorem test_V42_8 : run1 [0x00, 0xEA] (place [(0xFFFE, 0x00), (0xFFFF, 0x90)] { base with i := false, c := true })
    (fun u => u.sp == 0xFA && u.i && byteAt u 0x01FB == 0x31 && byteAt u 0x01FC == 0x02 && byteAt u 0x01FD == 0x80 && u.pc == 0x9000 && nvzc u == 0b0001 && u.cyc == 7) = true := by decide +kernel

theorem test_V42_9 : run1 [0x90, 0x05] { base with c := true }
    (fun u => u.pc == 0x8002 && nvzc u == 0b0001 && u.cyc == 2) = true := by decide +kernel

theorem test_V42_10 : run1 [0x90, 0x05] { base with c := false }
    (fun u => u.pc == 0x8007 && nvzc u == 0b0000 && u.cyc == 3) = true := by decide +kernel

theorem test_V42_11 : run1 [0xB0, 0x7F] { base with pc := 0x80F0, c := true }
    (fun u => u.pc == 0x8171 && nvzc u == 0b0001 && u.cyc == 4) = true := by decide +kernel

theorem test_V42_13 : run1 [0xD0, 0xFD] { base with pc := 0x8100, z := false }
    (fun u => u.pc == 0x80FF && nvzc u == 0b0000 && u.cyc == 4) = true := by decide +kernel

theorem test_V42_14 : run1 [0x30, 0x00] { base with n := true }
    (fun u => u.pc == 0x8002 && nvzc u == 0b1000 && u.cyc == 3) = true := by decide +kernel

theorem test_V42_15 : run1 [0x10, 0x80] { base with n := false }
    (fun u => u.pc == 0x7F82 && nvzc u == 0b0000 && u.cyc == 4) = true := by decide +kernel

theorem test_V42_16 : run1 [0x50, 0x01] { base with v := false }
    (fun u => u.pc == 0x8003 && nvzc u == 0b0000 && u.cyc == 3) = true := by decide +kernel

theorem test_V42_17 : run1 [0x70, 0x01] { base with v := false }
    (fun u => u.pc == 0x8002 && nvzc u == 0b0000 && u.cyc == 2) = true := by decide +kernel

theorem test_V42_18 : run1 [0xD0, 0x04] { base with pc := 0xFFFD, z := false }
    (fun u => u.pc == 0x0003 && nvzc u == 0b0000 && u.cyc == 4) = true := by decide +kernel

theorem test_V42_19 : run1 [0x18] { base with c := true }
    (fun u => u.pc == 0x8001 && nvzc u == 0b0000 && u.cyc == 2) = true := by decide +kernel

theorem test_V42_20 : run1 [0x38] base
    (fun u => u.pc == 0x8001 && nvzc u == 0b0001 && u.cyc == 2) = true := by decide +kernel

theorem test_V42_21 : run1 [0x58] base
    (fun u => !u.i && u.pc == 0x8001 && nvzc u == 0b0000 && u.cyc == 2) = true := by decide +kernel

theorem test_V42_22 : run1 [0x78] { base with i := false }
    (fun u => u.i && u.pc == 0x8001 && nvzc u == 0b0000 && u.cyc == 2) = true := by decide +kernel

theorem test_V42_23 : run1 [0xD8] { base with d := true }
    (fun u => !u.d && u.pc == 0x8001 && nvzc u == 0b0000 && u.cyc == 2) = true := by decide +kernel

theorem test_V42_24 : run1 [0xF8] base
    (fun u => u.d && u.pc == 0x8001 && nvzc u == 0b0000 && u.cyc == 2) = true := by decide +kernel

theorem test_V42_25 : run1 [0xB8] { base with v := true }
    (fun u => u.pc == 0x8001 && nvzc u == 0b0000 && u.cyc == 2) = true := by decide +kernel

theorem test_V42_26 : run1 [0xEA] base
    (fun u => u.pc == 0x8001 && nvzc u == 0b0000 && u.cyc == 2) = true := by decide +kernel

theorem test_V43_1 : run1 [0x07, 0x10] (place [(0x0010, 0x81)] { base with a := 0x01 })
    (fun u => u.a == 0x03 && byteAt u 0x0010 == 0x02 && u.pc == 0x8002 && nvzc u == 0b0001 && u.cyc == 5) = true := by decide +kernel

theorem test_V43_2 : run1 [0x27, 0x10] (place [(0x0010, 0x40)] { base with a := 0xFF, c := true })
    (fun u => u.a == 0x81 && byteAt u 0x0010 == 0x81 && u.pc == 0x8002 && nvzc u == 0b1000 && u.cyc == 5) = true := by decide +kernel

theorem test_V43_3 : run1 [0x47, 0x10] (place [(0x0010, 0x03)] { base with a := 0xFF })
    (fun u => u.a == 0xFE && byteAt u 0x0010 == 0x01 && u.pc == 0x8002 && nvzc u == 0b1001 && u.cyc == 5) = true := by decide +kernel

theorem test_V43_4 : run1 [0x67, 0x10] (place [(0x0010, 0x05)] { base with a := 0x10, c := false })
    (fun u => u.a == 0x13 && byteAt u 0x0010 == 0x02 && u.pc == 0x8002 && nvzc u == 0b0000 && u.cyc == 5) = true := by decide +kernel

theorem test_V43_5 : run1 [0x87, 0x10] { base with a := 0xF0, x := 0x3C }
    (fun u => byteAt u 0x0010 == 0x30 && u.pc == 0x8002 && nvzc u == 0b0000 && u.cyc == 3) = true := by decide +kernel

theorem test_V43_6 : run1 [0xA7, 0x10] (place [(0x0010, 0x80)] base)
    (fun u => u.a == 0x80 && u.x == 0x80 && u.pc == 0x8002 && nvzc u == 0b1000 && u.cyc == 3) = true := by decide +kernel

theorem test_V43_7 : run1 [0xB3, 0x10] (place [(0x0010, 0xFF), (0x0011, 0x02), (0x0300, 0x00)] { base with y := 0x01, a := 0x01, x := 0x01 })
    (fun u => u.a == 0x00 && u.x == 0x00 && u.pc == 0x8002 && nvzc u == 0b0010 && u.cyc == 6) = true := by decide +kernel

theorem test_V43_8 : run1 [0xC7, 0x10] (place [(0x0010, 0x41)] { base with a := 0x40 })
    (fun u => byteAt u 0x0010 == 0x40 && u.pc == 0x8002 && nvzc u == 0b0011 && u.cyc == 5) = true := by decide +kernel

theorem test_V43_9 : run1 [0xE7, 0x10] (place [(0x0010, 0x00)] { base with a := 0x01, c := true })
    (fun u => u.a == 0x00 && byteAt u 0x0010 == 0x01 && u.pc == 0x8002 && nvzc u == 0b0011 && u.cyc == 5) = true := by decide +kernel

theorem test_V43_10 : run1 [0x1F, 0xF0, 0x02] (place [(0x0310, 0x40)] { base with x := 0x20, a := 0x00 })
    (fun u => u.a == 0x80 && byteAt u 0x0310 == 0x80 && u.pc == 0x8003 && nvzc u == 0b1000 && u.cyc == 7) = true := by decide +kernel

theorem test_V43_11 : run1 [0x0B, 0x80] { base with a := 0xFF }
    (fun u => u.a == 0x80 && u.pc == 0x8002 && nvzc u == 0b1001 && u.cyc == 2) = true := by decide +kernel

theorem test_V43_12 : run1 [0x2B, 0x7F] { base with a := 0xFF, c := true }
    (fun u => u.a == 0x7F && u.pc == 0x8002 && nvzc u == 0b0000 && u.cyc == 2) = true := by decide +kernel

theorem test_V43_13 : run1 [0x4B, 0x03] { base with a := 0xFF }
    (fun u => u.a == 0x01 && u.pc == 0x8002 && nvzc u == 0b0001 && u.cyc == 2) = true := by decide +kernel

theorem test_V43_14 : run1 [0x6B, 0xFF] { base with a := 0xC0, c := true }
    (fun u => u.a == 0xE0 && u.pc == 0x8002 && nvzc u == 0b1001 && u.cyc == 2) = true := by decide +kernel

theorem test_V43_15 : run1 [0x6B, 0xFF] { base with a := 0x80, c := false }
    (fun u => u.a == 0x40 && u.pc == 0x8002 && nvzc u == 0b0101 && u.cyc == 2) = true := by decide +kernel

theorem test_V43_16 : run1 [0xCB, 0x01] { base with a := 0xFF, x := 0x00 }
    (fun u => u.x == 0xFF && u.pc == 0x8002 && nvzc u == 0b1000 && u.cyc == 2) = true := by decide +kernel

theorem test_V43_17 : run1 [0xCB, 0x10] { base with a := 0x3C, x := 0xF0 }
    (fun u => u.x == 0x20 && u.pc == 0x8002 && nvzc u == 0b0001 && u.cyc == 2) = true := by decide +kernel

theorem test_V43_18 : run1 [0xEB, 0x01] { base with a := 0x00, c := true }
    (fun u => u.a == 0xFF && u.pc == 0x8002 && nvzc u == 0b1000 && u.cyc == 2) = true := by decide +kernel

theorem test_V43_19 : run1 [0x1A] base
    (fun u => u.pc == 0x8001 && nvzc u == 0b0000 && u.cyc == 2) = true := by decide +kernel

theorem test_V43_20 : run1 [0x80, 0xFF] base
    (fun u => u.pc == 0x8002 && nvzc u == 0b0000 && u.cyc == 2) = true := by decide +kernel

theorem test_V43_21 : run1 [0x04, 0x10] (place [(0x0010, 0x00)] base)
    (fun u => u.pc == 0x8002 && nvzc u == 0b0000 && u.cyc == 3) = true := by decide +kernel

theorem test_V43_22 : run1 [0x1C, 0xF0, 0x90] (place [(0x9110, 0x00)] { base with x := 0x20 })
    (fun u => u.pc == 0x8003 && nvzc u == 0b0000 && u.cyc == 5) = true := by decide +kernel

theorem test_V43_23 :
    stops (placeBytes 0x8000 [0x02] { base with a := 0x12 }) (.noOpcodeHandler 0x02 0x8000)
      (fun u => u.pc == 0x8001 && u.cyc == 0) = true := by decide +kernel

theorem test_V43_24 :
    stops (placeBytes 0x8000 [0xAB, 0xFF] base) (.noOpcodeHandler 0xAB 0x8000)
      (fun u => u.pc == 0x8001 && u.cyc == 0) = true := by decide +kernel

theorem test_V43_25 :
    stops (placeBytes 0x8000 [0x9C, 0x00, 0x90] base) (.noOpcodeHandler 0x9C 0x8000)
      (fun u => u.pc == 0x8001 && u.cyc == 0) = true := by decide +kernel

-- The bus: 95_test_vectors.md section 2.6

theorem test_V20_1 : okWith (busWrite 0x1803 0x5A base) (fun _ t => t.ram == [(3, 0x5A)] &&
    [0x0003, 0x0803, 0x1003, 0x1803].all fun a => busRead a t == .ok 0x5A t) = true := by decide +kernel

theorem test_V20_2 : (let s := place [(0x07FF, 0x11), (0x0000, 0x22)] base
    busRead 0x07FF s = .ok 0x11 s ∧ busRead 0x0800 s = .ok 0x22 s) := by decide +kernel

theorem test_V20_3 : okWith (busWrite 0x3FFE 0x3F base)
    (fun _ t => t.ppu.vaddr == 0x3F00 && t.ppu.wlatch && t.ppu.obus == 0x1F) = true := by decide +kernel

theorem test_V20_4 : okWith (busRead 0x200A { base with ppu := { base.ppu with obus := 0x0A, wlatch := true } })
    (fun w t => w == 0x0A && !t.ppu.wlatch) = true := by decide +kernel

/-- V20.5 with eight of its cells: the first, the last and some between. -/
theorem test_V20_5 : okWith (busWrite 0x4014 0x02
      (place [(0x0200, 0x77), (0x0201, 1), (0x0280, 0x80), (0x02FF, 0xFF)]
        { base with ppu := { base.ppu with oamAddr := 0x40 } }))
    (fun _ t => t.ppu.oam == [(0, 0x77), (1, 1), (0x80, 0x80), (0xFF, 0xFF)] && t.ppu.oamAddr == 0x40) = true := by
  decide +kernel

theorem test_V20_9 : busRead 0x4200 (place [(0x4200, 0x77)] base) = .ok 0x77 (place [(0x4200, 0x77)] base) := by
  decide +kernel

theorem test_V20_12 : busRead 0x2002 { base with ppuHook := false } = .stop (.noHandler 0x2002)
    { base with ppuHook := false } := by decide +kernel

-- The pixel processor: section 2.7

theorem test_V44_1 : okWith (busWrite 0x2000 0x93 base)
    (fun _ t => t.ppu.ctrl == 0x93 && t.ppu.ntSel == 3 && t.ppu.obus == 0x13) = true := by decide +kernel

theorem test_V44_3 : okWith (busRead 0x2002
      { base with ppu := { base.ppu with status := 0xC0, obus := 0x1F, wlatch := true } })
    (fun w t => w == 0xDF && t.ppu.status == 0x40 && !t.ppu.wlatch) = true := by decide +kernel

theorem test_V44_5 : okWith ((busWrite 0x2003 0xFF base).andThen fun _ t => (busWrite 0x2004 0x22 t).andThen fun _ u =>
      busWrite 0x2004 0x33 u)
    (fun _ t => t.ppu.oam == [(0, 0x33), (0xFF, 0x22)] && t.ppu.oamAddr == 1) = true := by decide +kernel

theorem test_V44_8 : okWith ((busWrite 0x2005 0x10 base).andThen fun _ t => busWrite 0x2006 0x21 t)
    (fun _ t => t.ppu.scrollX == 0x10 && t.ppu.vaddr == 0x0021 && !t.ppu.wlatch) = true := by decide +kernel

theorem test_V44_10 : okWith (busWrite 0x2007 0xFF { base with ppu := { base.ppu with vaddr := 0x3F10 } })
    (fun _ t => t.ppu.pal == [(0, 0x3F)] && t.ppu.vaddr == 0x3F11) = true := by decide +kernel

theorem test_V44_12 : okWith ((busRead 0x2007
      { base with ppu := { base.ppu with vaddr := 0x2000, nt0 := [(0, 0xAB), (1, 0xCD)] } }).andThen fun w t =>
        if w = 0 then busRead 0x2007 t else .stop (.noHandler 0) t)
    (fun w t => w == 0xAB && t.ppu.rbuf == 0xCD && t.ppu.vaddr == 0x2002) = true := by decide +kernel

theorem test_V44_13 : okWith (busWrite 0x2007 0xF0 { base with ppu := { base.ppu with ctrl := 4, vaddr := 0x3FF0 } })
    (fun _ t => t.ppu.pal == [(0, 0x30)] && t.ppu.vaddr == 0x4010 && !done (busWrite 0x2007 0xF0 t)) = true := by
  decide +kernel

theorem test_V44_15 : okWith (busWrite 0x2007 0x66
      { base with ppu := { base.ppu with vaddr := 0x3405, mirror := .vertical } })
    (fun _ t => t.ppu.nt0 == [] && t.ppu.nt1 == [(5, 0x66)]) = true := by decide +kernel

/-- The tick that ends a frame, and the two of the vertical-blank flag (S6, S7). -/
theorem test_V44_T : (
    let at_ := fun (sl : Int) (d : Nat) (st : Byte) =>
      (ppuTick { base with ppu := { base.ppu with scanline := sl, dot := d, status := st, ctrl := 0x80 } })
    (at_ 260 340 0).ppu.frame = 1 ∧ (at_ 260 340 0).ppu.scanline = -1 ∧ (at_ 260 340 0).ppu.dot = 0 ∧
    (at_ 241 1 0).ppu.status = 0x80 ∧ (at_ 241 1 0).nmiReq = true ∧
    (at_ (-1) 1 0xC0).ppu.status = 0 ∧ (at_ (-1) 1 0xC0).nmiReq = false) := by decide +kernel

/-- The scene of the rendering vectors, at the start of a scanline, sprites 1 to 63 left out of sight. -/
def scene (line : Int) : State :=
  { base with ppu := { base.ppu with
      mask := 0x18, mirror := .vertical, scanline := line, dot := 0, nt0 := [(67, 1)],
      pat := [(0x10, 0xFF), (0x11, 0xFF), (0x12, 0xFF), (0x13, 0xFF), (0x14, 0xFF), (0x15, 0xFF), (0x16, 0xFF),
              (0x17, 0xFF), (0x20, 0x80), (0x21, 0x80), (0x28, 0x80)],
      pal := [(0, 0x0F), (1, 0x30), (0x11, 0x27), (0x13, 0x16)],
      oam := [(0, 0x10), (1, 2), (3, 0x1C)] ++ (List.range 63).map fun k => (4 * k + 4, 0xF0) } }

theorem test_V44_G1 : (
    let p := (scene 17).ppu
    (background p 17 23).colour = 0x0F ∧ (background p 17 24).colour = 0x30 ∧ (background p 17 31).colour = 0x30 ∧
    (background p 17 32).colour = 0x0F ∧ spriteIndex p 0 17 28 = 3 ∧ spriteColour p 0 17 28 = 0x16 ∧
    spriteIndex p 0 17 27 = 0 ∧ spriteColour p 0 18 28 = 0x27 ∧ spriteIndex p 1 17 0 = 0) := by decide +kernel

theorem test_V44_G7 : (
    let q := (scene 23).ppu
    let p := { q with oam := writeCell q.oam 2 0x80 }
    spriteColour p 0 23 28 = 0x27 ∧ spriteColour p 0 24 28 = 0x16 ∧ spriteIndex p 0 17 28 = 0) := by decide +kernel

-- The audio processor and the controllers: section 2.8

theorem test_V45_1 : okWith ((busWrite 0x4015 1 base).andThen fun _ t => busWrite 0x4003 8 t)
    (fun _ t => t.apu.p1.len == 254 && t.apu.p1.envStart && busRead 0x4015 t == .ok 1 t &&
      (let q := sequencerStep t.apu
       let r := sequencerStep q
       q.p1.len == 253 && q.p1.envDecay == 15 && q.fsStep == 1 && r.p1.len == 253 && r.p1.envDecay == 14)) = true := by
  decide +kernel

theorem test_V45_5 : (
    let p := { Pulse.powerOn with swEn := true, swNeg := true, swShift := 1, timer := 0x100 }
    (clockSweep true p).timer = 0x7F ∧ (clockSweep false p).timer = 0x80) := by decide +kernel

theorem test_V45_8 : okWith ((busWrite 0x4015 0
      { base with apu := { base.apu with p1 := { base.apu.p1 with enabled := true, len := 254 } } }).andThen
        fun _ t => busWrite 0x4003 0 t)
    (fun _ t => t.apu.p1.len == 0 && t.apu.p1.envStart) = true := by decide +kernel

theorem test_V45_9 : okWith ((busWrite 0x4015 4 base).andThen fun _ t => (busWrite 0x4008 5 t).andThen fun _ u =>
      busWrite 0x400B 0xF8 u)
    (fun _ t => t.apu.tri.len == 30 && t.apu.tri.linReload &&
      (let q := sequencerStep t.apu; q.tri.lin == 5 && !q.tri.linReload)) = true := by decide +kernel

theorem test_V45_C1 : okWith ((busWrite 0x4016 1 { base with buttons0 := 0x91 }).andThen fun _ t =>
      (busWrite 0x4016 0 t).andThen fun _ u => (busRead 0x4016 u).andThen fun w v =>
        if w = 1 then busRead 0x4016 v else .stop (.noHandler 0) v)
    (fun w t => w == 0 && t.ctl.shift0 == 0xE4) = true := by decide +kernel

-- The disk system: section 2.9

/-- The launch state with the Disk System present and an image that begins with `01 2A`. -/
def diskBase : State := { base with cfg := { diskPresent := true, diskImage := [0x01, 0x2A] } }

theorem test_V46_1 : okWith (busWrite 0x4025 0x2E diskBase)
    (fun _ t => t.dsk.latency == 149 && t.ppu.mirror == .horizontal && busRead 0x4032 t == .ok 6 t) = true := by
  decide +kernel

/-- V46.3 from the last tick of its countdown. -/
theorem test_V46_3 : (
    let q := { Disk.powerOn with ctrl := 0x2D, latency := 1 }
    let t := diskTick { diskBase with dsk := q }
    t.dsk.data = 1 ∧ t.dsk.xferFlag = true ∧ t.dsk.index = 1 ∧ t.dsk.count = 1 ∧ t.dsk.latency = 149 ∧
    irqLine t = false) := by decide +kernel

theorem test_V46_6 : okWith ((busWrite 0x4020 0x10 diskBase).andThen fun _ t => busWrite 0x4022 3 t)
    (fun _ t => t.dsk.tCounter == 16 &&
      (let u := Nat.repeat diskTick 16 t
       let v := diskTick u
       !u.dsk.timerFlag && v.dsk.timerFlag && v.dsk.tCounter == 16)) = true := by decide +kernel

theorem test_V46_8 : okWith (busWrite 0x4022 0 { diskBase with dsk := { diskBase.dsk with timerFlag := true } })
    (fun _ t => !t.dsk.timerFlag && !t.dsk.tEnable) = true := by decide +kernel

-- Interrupts, the driver, fatal stops, reset: section 2.10

theorem test_V60_1 : step1 (place [(0xFFFA, 0x20), (0xFFFB, 0x80), (0x8020, 0xE6), (0x8021, 0x10)]
      { base with nmiReq := true, n := true, sp := 0xFF, pc := 0x8013 })
    (fun t => byteAt t 0x01FF == 0x80 && byteAt t 0x01FE == 0x13 && byteAt t 0x01FD == 0xA4 && t.sp == 0xFC &&
      !t.nmiReq && byteAt t 0x0010 == 1 && t.pc == 0x8022 && t.cyc == 12 && t.ppu.dot == 36) = true := by
  decide +kernel

/-- The IRQ of V60.3 and V60.4 pending, handler `LDA $4030` at `$A000`. -/
def irqBase : State :=
  place [(0xFFFF, 0xA0), (0xA000, 0xAD), (0xA001, 0x30), (0xA002, 0x40)]
    { diskBase with i := false, sp := 0xFF, dsk := { diskBase.dsk with timerFlag := true } }

theorem test_V60_2 : step1 (place [(0x8000, 0xEA)] { irqBase with i := true }) (fun t => t.pc == 0x8001) = true := by
  decide +kernel

theorem test_V60_3 : step1 irqBase
    (fun t => byteAt t 0x01FF == 0x80 && byteAt t 0x01FE == 0x00 && byteAt t 0x01FD == 0x20 && t.sp == 0xFC && t.i &&
      t.a == 1 && !t.dsk.timerFlag && t.pc == 0xA003 && t.cyc == 11) = true := by decide +kernel

theorem test_V60_4 : step1 (place [(0xFFFB, 0x90), (0x9000, 0x40)] { irqBase with nmiReq := true })
    (fun t => t.pc == 0x8000 && !t.i && t.sp == 0xFF && t.cyc == 13) = true := by decide +kernel

theorem test_V60_8 : stops (place [(0x8000, 0xAD), (0x8001, 0x07), (0x8002, 0x20)]
      { base with a := 0x55, ppu := { base.ppu with vaddr := 0x4000 } }) (.vramRange 0x4000)
    (fun t => t.pc == 0x8003 && t.a == 0x55 && t.cyc == 0 && t.ppu.vaddr == 0x4000) = true := by decide +kernel

theorem test_V70_1 : (
    let t := resetCpu (place [(0xFFFC, 0x00), (0xFFFD, 0x80)] { base with a := 1, x := 2, y := 3, n := true, i := false })
    t.pc = 0x8000 ∧ t.a = 0 ∧ t.x = 0 ∧ t.y = 0 ∧ t.sp = 0xFD ∧ t.i = true ∧ t.n = false ∧ t.cyc = 0) := by
  decide +kernel

/-- The launch of a cartridge that is not 16 KiB puts its bytes at `$8000` alone (R56). -/
theorem test_launch : (
    let t := launch {} { program := [0xEA, 0x60], pattern := [7], vertical := true }
    byteAt t 0x8000 = 0xEA ∧ byteAt t 0x8001 = 0x60 ∧ byteAt t 0xC000 = 0 ∧ t.ppu.pat = [(0, 7)] ∧
    t.ppu.mirror = .vertical ∧ t.sp = 0xFD) := by decide +kernel

/-- A supply of every kind, with cells at the ends of their places; the bootstrap lies over a cartridge cell. -/
def fullSupply : Supply :=
  { ramInit := [(0, 0x11), (0x7FF, 0x22)], cartInit := [(0x4200, 0x33), (0xE001, 0x44), (0xE002, 0x55), (0xFFFF, 0x66)],
    patInit := [(0x1FFF, 0x77)], mirroringInit := .vertical, bootstrap := [0x88, 0x99] }

/-- R426 with R57: the host's RAM, cartridge space and pattern tables stand; the bootstrap lies over the cartridge
space when the Disk System is present. -/
theorem test_launchWith : (
    let t := launchWith { diskPresent := true, diskImage := [1] } fullSupply
    let u := launchWith {} fullSupply
    ([0x0000, 0x1FFF, 0x4200, 0xE000, 0xE001, 0xE002, 0xFFFF].map (byteAt t) =
      [0x11, 0x22, 0x33, 0x88, 0x99, 0x55, 0x66]) ∧
    t.ppu.pat = [(0x1FFF, 0x77)] ∧ t.ppu.mirror = .vertical ∧ byteAt u 0xE000 = 0 ∧ byteAt u 0xE001 = 0x44) := by
  decide +kernel

/-- The state after reset of a machine with nothing loaded is the launch with an empty cartridge. -/
theorem test_reset_is_launch : State.reset = launch {} { program := [], pattern := [], vertical := false } := by
  decide +kernel

/-- `withFetchWord` makes the next step run the word. -/
theorem test_withFetchWord : step1 (State.reset.withFetchWord 16 0x42A9) (fun t => t.a == 0x42 && t.pc == 2) = true ∧
    step1 ({ State.reset with pc := 0x2000 }.withFetchWord 16 0x42A9) (fun t => t.a == 0x42 && t.pc == 0x8002) = true := by
  decide +kernel

-- Witnesses

/-- A run that stops in its first iteration. -/
theorem fault_of_stops {s : State} {c : Fatal} {p : State → Bool} (h : stops s c p = true) :
    ∃ t, step s = .fault (.fatal c t) := by
  unfold stops at h
  split at h
  · rename_i d u hs
    rw [Bool.and_eq_true, decide_eq_true_eq] at h
    exact ⟨u, h.1 ▸ hs⟩
  · cases h
  · cases h
  · cases h

/-- A completed access has a value and a state. -/
theorem ok_of_done {α : Type} {r : Result α} (h : done r = true) : ∃ w t, r = .ok w t := by
  unfold done okWith at h
  split at h
  · exact ⟨_, _, rfl⟩
  · cases h

/-- Whether an instruction answers a next state. -/
def completes (i : Instr) (s : State) : Bool :=
  match exec i s with
  | .next _ => true
  | .fault _ => false
  | .refused _ => false

theorem next_of_completes {i : Instr} {s : State} (h : completes i s = true) : ∃ t, exec i s = .next t := by
  unfold completes at h
  split at h
  · exact ⟨_, ‹_›⟩
  · cases h
  · cases h

/-- Whether the bytes of an instruction stand at `pc`. -/
def standsAt (bs : List Byte) (u : State) : Bool :=
  (List.range bs.length).all fun k => storedByte u (u.pc + BitVec.ofNat 16 k) == bs[k]?

theorem stored_of_standsAt {bs : List Byte} {u : State} (h : standsAt bs u = true) (k : Nat) (w : Byte)
    (hk : bs[k]? = some w) : storedByte u (u.pc + BitVec.ofNat 16 k) = some w := by
  have hlt : k < bs.length := by
    rcases Nat.lt_or_ge k bs.length with hlt | hge
    · exact hlt
    · rw [List.getElem?_eq_none hge] at hk; cases hk
  have := List.all_eq_true.1 h k (List.mem_range.2 hlt)
  rw [beq_iff_eq] at this
  rw [this, hk]

/-- The machine with its VRAM address register at `v`. -/
def atVaddr (v : BitVec 15) : State := { base with ppu := { base.ppu with vaddr := v } }

/-- The machine with its dot counters at a place. -/
def atDot (line : Int) (dot : Nat) : State := { base with ppu := { base.ppu with scanline := line, dot := dot } }

theorem witness_DecodeOfEncodeIsInstruction :
    (Instr.bne (-128)).wf = true ∧ (Instr.bne 127).wf = true ∧ (Instr.ldaAbs 0xFFFF).wf = true := by decide

theorem witness_EncodeOfDecodeIsBytes : decode [0xD0, 0x80, 0xEA] = .ok (.bne (-128), [0xEA]) := rfl

theorem witness_OperandBytesAssembled :
    (decode [0xA9, 0x80, 0x12] = .ok (.ldaImm 0x80, [0x12]) ∧ (Instr.ldaImm 0x80).row.form = .data (.imm 0x80)) ∧
    (decode [0xA5, 0x80, 0x12] = .ok (.ldaZp 0x80, [0x12]) ∧ (Instr.ldaZp 0x80).row.form = .data (.mem (.zp 0x80))) ∧
    (decode [0xB5, 0xFF, 0x12] = .ok (.ldaZpx 0xFF, [0x12]) ∧
      (Instr.ldaZpx 0xFF).row.form = .data (.mem (.zpx 0xFF))) ∧
    (decode [0xB6, 0xFF, 0x12] = .ok (.ldxZpy 0xFF, [0x12]) ∧
      (Instr.ldxZpy 0xFF).row.form = .data (.mem (.zpy 0xFF))) ∧
    (decode [0xA1, 0x00, 0x12] = .ok (.ldaIzx 0, [0x12]) ∧ (Instr.ldaIzx 0).row.form = .data (.mem (.izx 0))) ∧
    (decode [0xB1, 0x00, 0x12] = .ok (.ldaIzy 0, [0x12]) ∧ (Instr.ldaIzy 0).row.form = .data (.mem (.izy 0))) ∧
    (decode [0xAD, 0x80, 0xFF] = .ok (.ldaAbs 0xFF80, []) ∧ (Instr.ldaAbs 0xFF80).row.form = .data (.mem (.abs 0xFF80))) ∧
    (decode [0xBD, 0x80, 0xFF] = .ok (.ldaAbx 0xFF80, []) ∧ (Instr.ldaAbx 0xFF80).row.form = .data (.mem (.abx 0xFF80))) ∧
    (decode [0xB9, 0x80, 0xFF] = .ok (.ldaAby 0xFF80, []) ∧ (Instr.ldaAby 0xFF80).row.form = .data (.mem (.aby 0xFF80))) ∧
    (decode [0x6C, 0xFF, 0x02] = .ok (.jmpInd 0x02FF, []) ∧ (Instr.jmpInd 0x02FF).row.form = .ind 0x02FF) ∧
    (decode [0xD0, 0x7F, 0x12] = .ok (.bne 127, [0x12]) ∧ (Instr.bne 127).row.form = .rel 127) ∧
    (decode [0xD0, 0x80, 0x12] = .ok (.bne (-128), [0x12]) ∧ (Instr.bne (-128)).row.form = .rel (-128)) := by
  refine ⟨⟨?_, ?_⟩, ⟨?_, ?_⟩, ⟨?_, ?_⟩, ⟨?_, ?_⟩, ⟨?_, ?_⟩, ⟨?_, ?_⟩, ⟨?_, ?_⟩, ⟨?_, ?_⟩, ⟨?_, ?_⟩, ⟨?_, ?_⟩,
    ⟨?_, ?_⟩, ⟨?_, ?_⟩⟩ <;> rfl

/-- An instruction across the end of the address space, one at an interrupt handler, and a fetch that stops. -/
theorem witness_StepRunsDecodedInstruction :
    (∃ (s : State) (i : Instr), s.fatal = none ∧ s.cfg.accepted = true ∧ i.wf = true ∧
      let u := serviceInterrupts (hostTurn s)
      u.pc = 0xFFFF ∧ (encode i).length = 2 ∧
      ∀ (k : Nat) (w : Byte), (encode i)[k]? = some w → storedByte u (u.pc + BitVec.ofNat 16 k) = some w) ∧
    (∃ (s : State) (i : Instr), s.fatal = none ∧ s.cfg.accepted = true ∧ i.wf = true ∧ s.nmiReq = true ∧
      let u := serviceInterrupts (hostTurn s)
      u.pc = 0x1FFF ∧
      ∀ (k : Nat) (w : Byte), (encode i)[k]? = some w → storedByte u (u.pc + BitVec.ofNat 16 k) = some w) ∧
    (∃ (s t : State) (c : Fatal), s.fatal = none ∧ s.cfg.accepted = true ∧
      fetchInstr (serviceInterrupts (hostTurn s)) = .stop c t) := by
  refine ⟨⟨placeBytes 0xFFFF [0xA9, 0x42] { base with pc := 0xFFFF }, .ldaImm 0x42, by decide +kernel,
      by decide +kernel, rfl, by decide +kernel, rfl, stored_of_standsAt (by decide +kernel)⟩,
    ⟨place [(0xFFFA, 0xFF), (0xFFFB, 0x1F), (0x1FFF, 0xEA)] { base with nmiReq := true }, .nop, by decide +kernel,
      by decide +kernel, rfl, by decide +kernel, by decide +kernel, stored_of_standsAt (by decide +kernel)⟩,
    ⟨{ atVaddr 0x4000 with pc := 0x2007 }, { atVaddr 0x4000 with pc := 0x2007 }, .vramRange 0x4000, rfl, rfl, ?_⟩⟩
  decide +kernel

theorem witness_FatalStopIsFinal :
    (∃ (s t : State) (c : Fatal), step s = .fault (.fatal c t)) ∧
    ∃ (s : State) (c : Fatal), s.fatal = some c := by
  refine ⟨?_, { base with fatal := some (.noHandler 0) }, .noHandler 0, rfl⟩
  obtain ⟨t, h⟩ := fault_of_stops test_V43_23
  exact ⟨_, t, _, h⟩

theorem witness_StubOpcodesStop : base.fatal = none := rfl

theorem witness_WellFormedStateIsKept :
    (∃ s t : State, s.wf = true ∧ step s = .next t) ∧
    ∃ s t : State, s.wf = true ∧ s.cfg.diskPresent = true ∧ step s = .next t := by
  obtain ⟨t, ht⟩ := next_of_safeStep (s := State.reset) (by decide +kernel)
  obtain ⟨u, hu⟩ := next_of_safeStep (s := irqBase) (by decide +kernel)
  exact ⟨⟨_, t, by decide +kernel, ht⟩, _, u, by decide +kernel, by decide +kernel, hu⟩

/-- Parameters without and with the Disk System; a supply with cells at the ends of their places; a cartridge and a
bootstrap of the greatest lengths. -/
theorem witness_WellFormedAtReset :
    (({} : Params).accepted = true ∧ ({ diskPresent := true, diskImage := [1] } : Params).accepted = true ∧
      ({ diskPresent := true, diskHeader := true, diskImage := List.replicate 17 0 } : Params).accepted = true) ∧
    fullSupply.wf = true ∧
    (List.replicate 0x8000 (0xEA : Byte)).length ≤ 0x8000 ∧ (List.replicate 0x2000 (0xFF : Byte)).length ≤ 0x2000 ∧
    (List.replicate 0x2000 (0xEA : Byte)).length ≤ 8192 := by
  refine ⟨⟨rfl, rfl, rfl⟩, by decide +kernel, ?_, ?_, ?_⟩ <;> rw [List.length_replicate] <;> decide

/-- Both ends of the RAM window; cartridge space below, under and above the bootstrap, and with none; a program of
exactly 16 KiB, one byte less, and 32 KiB; pattern bytes and the cells after them. -/
theorem witness_LaunchPlacesTheSupply :
    (fullSupply.wf = true ∧ (0x1FFF : Word).toNat < 0x2000) ∧
    (0x4200 ≤ (0x4200 : Word).toNat ∧ (0xDFFF : Word).toNat < 0xE000 ∧
      0xE000 + fullSupply.bootstrap.length ≤ (0xE002 : Word).toNat ∧ ({} : Params).diskPresent = false) ∧
    (({ diskPresent := true, diskImage := [1] } : Params).diskPresent = true ∧ 1 < fullSupply.bootstrap.length) ∧
    (let full : List Byte := List.replicate 0x4000 0xEA
     full.length ≤ 0x8000 ∧ full.length = 16384 ∧ full[0x3FFF]? = some 0xEA ∧ 0x3FFF < 0x4000) ∧
    (let short : List Byte := List.replicate 0x3FFF 0xEA
     short.length ≠ 16384 ∧ short[0x3FFE]? = some 0xEA ∧
       0x8000 + (if short.length = 16384 then 0x8000 else short.length) ≤ 0xBFFF ∧ 0x7FFF < 0x8000) ∧
    (let long : List Byte := List.replicate 0x8000 0xEA
     long.length ≤ 0x8000 ∧ long.length ≠ 16384 ∧ long[0x7FFF]? = some 0xEA) ∧
    (let tables : List Byte := List.replicate 0x2000 0xFF
     tables.length ≤ 0x2000 ∧ tables[0x1FFF]? = some 0xFF ∧ ([0xFF] : List Byte).length ≤ 1) := by
  refine ⟨⟨by decide +kernel, by decide⟩, by decide, by decide, ?_, ?_, ?_, ?_⟩ <;>
    simp only [List.length_replicate, List.getElem?_replicate] <;> decide

theorem witness_LaunchedMachineStopsOnlyForTwoReasons : State.reset.wf = true ∧ irqBase.wf = true := by decide +kernel

/-- No interrupt, NMI, IRQ, and an IRQ that I masks. -/
theorem witness_StepAddsItsCycles :
    (∃ t, step base = .next t) ∧ (∃ t, step { base with nmiReq := true } = .next t) ∧
    (irqLine irqBase = true ∧ irqBase.i = false ∧ ∃ t, step irqBase = .next t) ∧
    (irqLine { irqBase with i := true } = true ∧ ∃ t, step { irqBase with i := true } = .next t) :=
  ⟨next_of_safeStep (by decide +kernel), next_of_safeStep (by decide +kernel),
    ⟨by decide +kernel, by decide +kernel, next_of_safeStep (by decide +kernel)⟩,
    by decide +kernel, next_of_safeStep (by decide +kernel)⟩

theorem witness_ResetTouchesTheCpuAlone :
    storedByte (place [(0xFFFD, 0x80)] base) 0xFFFC = some 0x00 ∧
    storedByte (place [(0xFFFD, 0x80)] base) 0xFFFD = some 0x80 ∧
    { base with pending := [.reset, .idle] }.pending = .reset :: [.idle] := by decide +kernel

theorem witness_NmiAndIrqEntry :
    (memoryWf 0 0x800 base.ram = true ∧ { base with nmiReq := true }.nmiReq = true) ∧
    (memoryWf 0 0x800 irqBase.ram = true ∧ irqBase.nmiReq = false ∧ irqLine irqBase = true ∧ irqBase.i = false) := by
  decide +kernel

theorem witness_IrqLineAndMask :
    (base.nmiReq = false ∧ irqLine base = false) ∧
    ({ irqBase with i := true }.nmiReq = false ∧ irqLine { irqBase with i := true } = true) ∧
    irqLine { diskBase with dsk := { diskBase.dsk with xferFlag := true, ctrl := 0x80 } } = true ∧
    irqLine { diskBase with dsk := { diskBase.dsk with xferFlag := true, ctrl := 0x7F } } = false := by decide +kernel

theorem witness_BrkTakesTheSharedVector : memoryWf 0 0x800 { base with sp := 0x00 }.ram = true := by decide

theorem witness_RtiAfterEntryResumes :
    ∃ (s t : State) (ret vec : Word) (brk : Bool), memoryWf 0 0x800 s.ram = true ∧ EntersHandler ret brk vec s t :=
  ⟨{ base with sp := 0x01 }, enterInterrupt 0x8000 true 0xFFFE { base with sp := 0x01 }, 0x8000, 0xFFFE, true,
    by decide, enterInterrupt_entersHandler (by decide) (by decide) (by decide) rfl⟩

theorem witness_RegionOfEveryAddress :
    (0x1FFF : Word).toNat ≤ 0x1FFF ∧ 0x2000 ≤ (0x2000 : Word).toNat ∧ (0x3FFF : Word).toNat ≤ 0x3FFF ∧
    (0x4014 : Word).toNat = 0x4014 ∧ 0x4000 ≤ (0x4000 : Word).toNat ∧ (0x4013 : Word).toNat ≠ 0x4014 ∧
    (0x41FF : Word).toNat ≤ 0x41FF ∧ (0x4015 : Word).toNat ≠ 0x4014 ∧ 0x4200 ≤ (0x4200 : Word).toNat ∧
    (List.range 8).all (fun k => (BitVec.ofNat 16 (0x3FF8 + k)).toNat % 8 == k) = true := by decide

/-- The regions at the ends of their ranges, from the table of R40. -/
theorem test_regions :
    region 0x1FFF = .ram 0x7FF ∧ region 0x2000 = .ppu .control ∧ region 0x3FFF = .ppu .vramData ∧
    region 0x4000 = .io ∧ region 0x4013 = .io ∧ region 0x4014 = .bulkCopy ∧ region 0x4015 = .io ∧
    region 0x41FF = .io ∧ region 0x4200 = .cart 0x4200 ∧ region 0xFFFF = .cart 0xFFFF := by decide +kernel

theorem witness_StoredBytesReadBack :
    memoryWf 0 0x800 base.ram = true ∧ memoryWf 0x4200 0x10000 base.cart = true ∧
    (0x1FFF : Word).toNat < 0x2000 ∧ (0x07FF : Word).toNat % 2048 = (0x1FFF : Word).toNat % 2048 ∧
    (0x1FFE : Word).toNat % 2048 ≠ (0x1FFF : Word).toNat % 2048 ∧ 0x2000 ≤ (0x2000 : Word).toNat ∧
    0x4200 ≤ (0x4200 : Word).toNat ∧ (0x4201 : Word) ≠ 0x4200 := by decide

theorem witness_UnhookedWindowIsFatal :
    ({ base with ppuHook := false }.ppuHook = false ∧ 0x2000 ≤ (0x2000 : Word).toNat ∧ (0x3FFF : Word).toNat ≤ 0x3FFF) ∧
    ({ base with ioHook := false }.ioHook = false ∧ 0x4000 ≤ (0x4000 : Word).toNat ∧ (0x41FF : Word).toNat ≤ 0x41FF ∧
      (0x4013 : Word).toNat ≠ 0x4014) ∧
    (base.ppuHook = true ∧ base.ioHook = true) := by decide

theorem witness_ReadsChangeOnlySideEffects :
    (∃ w t, busRead 0x1FFF base = .ok w t) ∧ (∃ w t, busRead 0x4200 base = .ok w t) ∧
    (∃ w t, busRead 0x2000 base = .ok w t) ∧ (∃ w t, busRead 0x3FFF base = .ok w t) ∧
    (∃ w t, busRead 0x2002 base = .ok w t) ∧ (∃ w t, busRead 0x4000 base = .ok w t) ∧
    (∃ w t, busRead 0x4016 base = .ok w t) ∧ (∃ w t, busRead 0x41FF base = .ok w t) ∧
    (∃ w t, busRead 0x4030 diskBase = .ok w t) := by
  refine ⟨?_, ?_, ?_, ?_, ?_, ?_, ?_, ?_, ?_⟩ <;> exact ok_of_done (by decide +kernel)

theorem witness_WritesChangeOnlyTheirUnit :
    (∃ u t, busWrite 0x1FFF 1 base = .ok u t) ∧ (∃ u t, busWrite 0x2000 1 base = .ok u t) ∧
    (∃ u t, busWrite 0x3FFF 1 base = .ok u t) ∧ (∃ u t, busWrite 0x4000 1 base = .ok u t) ∧
    (∃ u t, busWrite 0x401F 1 base = .ok u t) ∧ (∃ u t, busWrite 0x4020 1 diskBase = .ok u t) ∧
    (∃ u t, busWrite 0x4025 1 diskBase = .ok u t) ∧ (∃ u t, busWrite 0x41FF 1 diskBase = .ok u t) ∧
    (∃ u t, busWrite 0x4014 1 base = .ok u t) ∧ (∃ u t, busWrite 0x4014 0x20 base = .ok u t) ∧
    (∃ u t, busWrite 0x4014 0x40 diskBase = .ok u t) ∧ (∃ u t, busWrite 0xFFFF 1 base = .ok u t) := by
  refine ⟨?_, ?_, ?_, ?_, ?_, ?_, ?_, ?_, ?_, ?_, ?_, ?_⟩ <;> exact ok_of_done (by decide +kernel)

/-- Pages on both sides of every boundary; the last VRAM address from which 32 reads stay in the window, and the
next one. -/
theorem witness_BulkCopyIs256OrderedReads :
    ([0x1F, 0x20, 0x3F, 0x40, 0x41, 0x42, 0xFF].all (copyOk base) = true ∧ copyOk (atVaddr 0x3FE0) 0x20 = true) ∧
    (copyOk (atVaddr 0x3FE1) 0x3F = false ∧ copyOk { base with ppuHook := false } 0x20 = false ∧
      copyOk { base with ioHook := false } 0x41 = false) ∧
    (memoryWf 0 256 base.ppu.oam = true ∧ (0x1F : Byte).toNat < 0x20 ∧ 0x42 ≤ (0x42 : Byte).toNat) := by
  decide +kernel

theorem witness_OpenReadsDrawAFreeByte :
    base.ppuHook = true ∧ base.ioHook = true ∧
    ([0x2000, 0x2001, 0x2003, 0x2005, 0x3FFE].all fun a : Word => 0x2000 ≤ a.toNat && a.toNat ≤ 0x3FFF &&
      [0, 1, 3, 5, 6].contains (a.toNat % 8)) = true ∧
    ([0x4000, 0x4014, 0x4018, 0x402F, 0x4034, 0x41FF].all fun a : Word => 0x4000 ≤ a.toNat && a.toNat ≤ 0x41FF &&
      (a.toNat < 0x4015 || (0x4017 < a.toNat && a.toNat < 0x4030) || 0x4033 < a.toNat)) = true ∧
    ([0x4009, 0x400D, 0x4010, 0x4013, 0x4018, 0x401F, 0x4027, 0x41FF].all fun a : Word =>
      a.toNat == 0x4009 || a.toNat == 0x400D || (0x4010 ≤ a.toNat && a.toNat ≤ 0x4013) ||
      (0x4018 ≤ a.toNat && a.toNat ≤ 0x401F) || (0x4027 ≤ a.toNat && a.toNat ≤ 0x41FF)) = true := by decide +kernel

theorem witness_StatusReadClearsVblankAndLatch :
    base.ppuHook = true ∧ 0x2000 ≤ (0x2002 : Word).toNat ∧ (0x3FFA : Word).toNat ≤ 0x3FFF ∧
    (0x2002 : Word).toNat % 8 = 2 ∧ (0x3FFA : Word).toNat % 8 = 2 := by decide

theorem witness_PixelPortWrites :
    base.ppuHook = true ∧ base.ppu.wlatch = false ∧
    { base with ppu := { base.ppu with wlatch := true } }.ppu.wlatch = true ∧
    ([0, 1, 2, 3, 4, 5, 6].all fun k : Nat => (BitVec.ofNat 16 (0x2000 + k)).toNat % 8 == k &&
      (BitVec.ofNat 16 (0x3FF8 + k)).toNat % 8 == k && 0x2000 ≤ (BitVec.ofNat 16 (0x2000 + k)).toNat &&
      (BitVec.ofNat 16 (0x3FF8 + k)).toNat ≤ 0x3FFF) = true := by decide

theorem witness_DataPortAccesses :
    base.ppuHook = true ∧ 0x2000 ≤ (0x2007 : Word).toNat ∧ (0x3FFF : Word).toNat ≤ 0x3FFF ∧
    (0x2007 : Word).toNat % 8 = 7 ∧ (0x3FFF : Word).toNat % 8 = 7 ∧
    (atVaddr 0x3EFF).ppu.vaddr.toNat < 0x3F00 ∧ 0x3F00 ≤ (atVaddr 0x3F00).ppu.vaddr.toNat ∧
    (atVaddr 0x3FFF).ppu.vaddr.toNat < 0x4000 ∧ 0x4000 ≤ (atVaddr 0x4000).ppu.vaddr.toNat ∧
    0x4000 ≤ (atVaddr 0x7FFF).ppu.vaddr.toNat := by decide

theorem witness_PixelMemoryAliases :
    ppuWf base.ppu = true ∧ ppuWf (scene 17).ppu = true ∧ 0x0000 < 0x4000 ∧ 0x3FFF < 0x4000 := by decide +kernel

theorem witness_FrameIs89342Ticks :
    ([atDot (-1) 0, atDot (-1) 340, atDot 260 340, atDot 0 0].all fun s =>
      s.ppu.dot ≤ 340 && -1 ≤ s.ppu.scanline && s.ppu.scanline ≤ 260) = true := by decide

/-- The pre-render and vertical-blank events; then the plain positions next to them and at the ends of a line and of
a frame. -/
theorem witness_TickEventsAndAdvance :
    ((atDot (-1) 1).ppu.scanline = -1 ∧ (atDot (-1) 1).ppu.dot = 1) ∧
    ((atDot 241 1).ppu.scanline = 241 ∧ (atDot 241 1).ppu.dot = 1) ∧
    ([atDot (-1) 0, atDot (-1) 2, atDot 0 1, atDot 239 1, atDot 240 0, atDot 241 0, atDot 0 340,
        atDot 260 340].all fun s =>
      s.ppu.dot ≤ 340 && -1 ≤ s.ppu.scanline && s.ppu.scanline ≤ 260 &&
      !(s.ppu.dot == 1 && (s.ppu.scanline == -1 || s.ppu.scanline == 241)) &&
      !(s.ppu.dot == 0 && 0 ≤ s.ppu.scanline && s.ppu.scanline ≤ 239)) = true := by decide +kernel

/-- First and last line; sprites off, on without any at the pixel, on with one; a hit, and none. -/
theorem witness_LineIsRenderedAtDotZero :
    (0 ≤ (atDot 0 0).ppu.scanline ∧ (atDot 239 0).ppu.scanline ≤ 239 ∧ (atDot 0 0).ppu.dot = 0) ∧
    (base.ppu.mask.getLsbD 4 = false) ∧
    ((scene 17).ppu.mask.getLsbD 4 = true ∧ ∀ i < 64, spriteIndex (scene 17).ppu i 17 0 = 0) ∧
    ((scene 17).ppu.mask.getLsbD 4 = true ∧ spriteIndex (scene 17).ppu 0 17 28 ≠ 0 ∧
      ∀ j < 0, spriteIndex (scene 17).ppu j 17 28 = 0) ∧
    ((scene 17).ppu.mask.getLsbD 3 = true ∧ (28 : Nat) < 256 ∧ spriteIndex (scene 17).ppu 0 17 28 ≠ 0 ∧
      (background (scene 17).ppu 17 28).idx ≠ 0) ∧
    ¬ (base.ppu.mask.getLsbD 3 = true) := by decide +kernel

theorem witness_BackgroundAndSpritePixels :
    base.ppu.mask.getLsbD 3 = false ∧ (scene 17).ppu.mask.getLsbD 3 = true := by decide

theorem witness_AudioRegisterWrites : base.ioHook = true := rfl

theorem witness_LengthTableAndChannelStatus : base.ioHook = true := rfl

/-- The divider below and at its bound; a channel with length 0, one with a length left. -/
theorem witness_AudioStepAndSequencer :
    (base.apu.fsDiv + 7456 < base.cfg.apuFrameDivider ∧ base.cfg.apuFrameDivider ≤ base.apu.fsDiv + 7457) ∧
    (base.apu.p1.len = 0 ∧ base.apu.tri.len = 0 ∧ base.apu.noi.len = 0) := by decide

/-- The sequencer clocks the sweeps on steps 0 and 2 alone (R351): pulse 1 of V45.5. -/
theorem test_sequencer_clocks_sweeps : (
    let p := { Pulse.powerOn with swEn := true, swNeg := true, swShift := 1, timer := 0x100 }
    let timers := fun k : Nat =>
      let q := sequencerStep { base.apu with p1 := p, p2 := p, fsStep := k }
      (q.p1.timer.toNat, q.p2.timer.toNat)
    timers 0 = (0x7F, 0x80) ∧ timers 2 = (0x7F, 0x80) ∧ timers 1 = (0x100, 0x100) ∧ timers 3 = (0x100, 0x100)) := by
  decide +kernel

theorem witness_SilencedChannelsEmitZero :
    (base.apu.p1.enabled = false ∧ { base.apu.p1 with enabled := true, len := 1 }.enabled = true ∧
      { base.apu.p1 with enabled := true, len := 1 }.len ≠ 0) ∧
    (base.apu.tri.enabled = false ∧ { base.apu.tri with enabled := true, len := 1 }.lin = 0 ∧
      { base.apu.tri with enabled := true, len := 1, lin := 1 }.len ≠ 0 ∧
      { base.apu.tri with enabled := true, len := 1, lin := 1 }.lin ≠ 0) ∧
    (base.apu.noi.enabled = false ∧ { base.apu.noi with enabled := true, len := 1, period := 15 }.enabled = true ∧
      { base.apu.noi with enabled := true, len := 1, period := 15 }.len ≠ 0) := by decide

theorem witness_ControllersReadOutInOrder :
    base.ioHook = true ∧ base.ctl.strobe = false ∧
    { base with ctl := { base.ctl with strobe := true } }.ctl.strobe = true := by decide

theorem witness_AbsentDiskDoesNothing :
    base.cfg.diskPresent = false ∧ base.ioHook = true ∧ 0x4020 ≤ (0x4020 : Word).toNat ∧
    (0x41FF : Word).toNat ≤ 0x41FF := by decide

theorem witness_DiskRegisterAccesses :
    diskBase.ioHook = true ∧ diskBase.cfg.diskPresent = true ∧
    0x4030 ≤ (0x4030 : Word).toNat ∧ (0x4033 : Word).toNat ≤ 0x4033 := by decide

/-- The timer off, counting, at zero with and without repeat; the latency at 2, 1 and 0, and waiting. -/
theorem witness_DiskTickRunsTimerAndLatency :
    (let q := { Disk.powerOn with tEnable := true, tCounter := 1 }
     let r := { Disk.powerOn with tEnable := true, tRepeat := true }
     Disk.powerOn.tEnable = false ∧ (q.tEnable = true ∧ q.tCounter ≠ 0 ∧ q.timerFlag = false) ∧
     (r.tEnable = true ∧ r.tCounter = 0 ∧ r.tRepeat = true) ∧
     ({ r with tRepeat := false }.tEnable = true ∧ { r with tRepeat := false }.tCounter = 0)) ∧
    diskBase.cfg.diskPresent = true ∧
    (let q := { Disk.powerOn with ctrl := 0x2D, latency := 2 }
     (q.ctrl.getLsbD 0 = true ∧ q.ctrl.getLsbD 1 = false ∧ q.ctrl.getLsbD 2 = true ∧ q.xferFlag = false) ∧
     2 ≤ q.latency ∧ { q with latency := 1 }.latency ≤ 1 ∧ { q with latency := 0 }.latency ≤ 1 ∧
     ¬ ({ q with xferFlag := true }.xferFlag = false)) := by decide

/-- In a block; at the last byte of each of the eight states; the two wraps, and the same states without one; the file
count of block 2; the offsets of block 3 that write a field, and those that write none. -/
theorem witness_DiskDecoderWalksTheBlocks :
    (let q := Disk.powerOn
     q.count < blockLength q ∧ q.count + 1 < blockLength q ∧ { q with count := 54 }.count + 1 < blockLength q) ∧
    (let full := fun (b : BlockState) (c : Nat) =>
       let q := { Disk.powerOn with state := b, count := c, fileTotal := 2 }
       c < blockLength q ∧ c + 1 = blockLength q
     full .block1 55 ∧ full .block1Crc 1 ∧ full .block2 1 ∧ full .block2Crc 1 ∧ full .block3 15 ∧ full .block3Crc 1 ∧
     full .block4 0 ∧ full .block4Crc 1) ∧
    (let q := { Disk.powerOn with state := .block2Crc, count := 1 }
     q.fileTotal = 0 ∧ { q with fileTotal := 1 }.fileTotal ≠ 0) ∧
    (let q := { Disk.powerOn with state := .block4Crc, count := 1, fileTotal := 2 }
     { q with fileCur := 1 }.fileTotal ≤ { q with fileCur := 1 }.fileCur + 1 ∧ ¬ q.fileTotal ≤ q.fileCur + 1) ∧
    ({ Disk.powerOn with state := .block2, count := 1 }.count = 1) ∧
    ((List.range 16).all fun c =>
      let q := { Disk.powerOn with state := .block3, count := c }
      decide (q.count < blockLength q)) = true := by decide +kernel

/-- A block-3 record of R400, its bytes taken one by one: id 5, name of eight bytes, address $6000, size $0203, type 1;
then block 4 has `1 + size` bytes. -/
theorem test_file_table : (
    let record : List Byte := [3, 0x99, 5, 0x41, 0x42, 0x43, 0x44, 0x45, 0x46, 0x47, 0x48, 0x00, 0x60, 0x03, 0x02, 1]
    let cfg : Params := { diskPresent := true, diskImage := record }
    let q := Nat.repeat (takeByte cfg) 16 { Disk.powerOn with state := .block3, fileTotal := 2, fileCur := 1 }
    let f := fileAt q.files 1
    q.state = .block3Crc ∧ q.index = 16 ∧ f.id = 5 ∧ f.name.toList = [0x41, 0x42, 0x43, 0x44, 0x45, 0x46, 0x47, 0x48] ∧
    f.address = 0x6000 ∧ f.size = 0x0203 ∧ f.type = 1 ∧ fileAt q.files 0 = blankFile ∧
    blockLength { q with state := .block4 } = 0x204) := by decide +kernel

/-- Whether a list of read forms has one whose operand can be read in `s`, and one whose operand stops the machine
in `t`. -/
def readBoth (fs : Byte → Word → List ReadForm) (s t : State) : Bool :=
  (fs 0x10 0x2007).any (fun f => operandOk f.operand s) && (fs 0x10 0x2007).any (fun f => !operandOk f.operand t)

/-- The same for stores. -/
def storeBoth (fs : Byte → Word → List MemForm) (s t : State) : Bool :=
  (fs 0x10 0x2007).any (fun f => writeOk s (resolve f.dest s).addr 1) &&
    (fs 0x10 0x2007).any (fun f => !writeOk t (resolve f.dest t).addr 1)

/-- The same for read-modify-write forms. -/
def rmwBoth (fs : Byte → Word → List MemForm) (s t : State) : Bool :=
  (fs 0x10 0x2007).any (fun f => rmwOk f.dest inc8 s) && (fs 0x10 0x2007).any (fun f => !rmwOk f.dest inc8 t)

theorem witness_LoadsFollowTheirRules :
    [ldaForms, ldxForms, ldyForms, laxForms].all (fun f => readBoth f (atVaddr 0x3FFF) (atVaddr 0x4000)) = true := by
  decide +kernel

theorem witness_StoresFollowTheirRules :
    [staForms, stxForms, styForms, saxForms].all (fun f => storeBoth f (atVaddr 0x3FFF) (atVaddr 0x4000)) = true := by
  decide +kernel

theorem witness_AddAndSubtractFollowTheirRules :
    [adcForms, sbcForms].all (fun f => readBoth f (atVaddr 0x3FFF) (atVaddr 0x4000)) = true := by decide +kernel

theorem witness_LogicAndCompareFollowTheirRules :
    [andForms, oraForms, eorForms, bitForms, cmpForms, cpxForms, cpyForms].all
      (fun f => readBoth f (atVaddr 0x3FFF) (atVaddr 0x4000)) = true := by decide +kernel

/-- Also a form whose read completes and whose write does not: the data port at the last legal VRAM address. -/
theorem witness_MemoryShiftsAndCountsFollowTheirRules :
    [incForms, decForms, aslForms, lsrForms, rolForms, rorForms].all
      (fun f => rmwBoth f (atVaddr 0x3FFE) (atVaddr 0x4000)) = true ∧
    (readOk (atVaddr 0x3FFF) 0x2007 = true ∧ rmwOk (.abs 0x2007) inc8 (atVaddr 0x3FFF) = false) := by decide +kernel

theorem witness_CombinedOperationsFollowTheirRules :
    [sloForms, rlaForms, sreForms, rraForms, dcpForms, iscForms].all
      (fun f => rmwBoth f (atVaddr 0x3FFE) (atVaddr 0x4000)) = true := by decide +kernel

/-- Immediate forms only: their operands can always be read, so the stop clause of `ReadRule` says nothing here. -/
theorem witness_ImmediateCombinationsFollowTheirRules :
    ([ancForms, alrForms, arrForms, sbxForms].all fun fs => (fs 0x10 0).all fun f => operandOk f.operand base) = true ∧
    ([ancForms, alrForms, arrForms, sbxForms].all fun fs => !(fs 0x10 0).isEmpty) = true := by decide +kernel

theorem witness_OneByteAndNoOpInstructionsFollowTheirRules :
    readBoth nopForms (atVaddr 0x3FFF) (atVaddr 0x4000) = true := by decide +kernel

theorem witness_StackInstructionsFollowTheirRules : memoryWf 0 0x800 base.ram = true := by decide

theorem witness_JumpsCallsAndReturns :
    pointerOk 0x02FF base = true ∧ pointerOk 0x2006 (atVaddr 0x3FFF) = true ∧ pointerOk 0x2007 (atVaddr 0x4000) = false ∧
    pointerOk 0x2006 (atVaddr 0x4000) = false ∧ memoryWf 0 0x800 base.ram = true := by decide +kernel

theorem witness_BranchesFollowTheirRules :
    (-128 : Int) ≤ -128 ∧ (127 : Int) ≤ 127 ∧
    (!base.n) = true ∧ (!{ base with n := true }.n) = false ∧ (!base.v) = true ∧ (!{ base with v := true }.v) = false ∧
    (!base.c) = true ∧ (!{ base with c := true }.c) = false ∧ (!base.z) = true ∧
    (!{ base with z := true }.z) = false := by decide

theorem witness_RegistersAndFlagsFrame :
    (∃ t, exec (.ldaImm 1) base = .next t) ∧ (Reg.X ∉ mayWrite (Instr.ldaImm 1).row.mnemonic (Instr.ldaImm 1).row.mode) ∧
    (∃ t, exec (.rorAbs 0x0010) base = .next t) ∧ (∃ t, exec .rti base = .next t) ∧ (∃ t, exec .brk base = .next t) := by
  refine ⟨?_, by decide, ?_, ?_, ?_⟩ <;> exact next_of_completes (by decide +kernel)

/-- A store with the byte next to it, a push that wraps the stack with the cell under it, and a form that stores
nothing. -/
theorem witness_MemoryFrame :
    (memoryWf 0 0x800 base.ram = true ∧ memoryWf 0x4200 0x10000 base.cart = true) ∧
    ((∃ t, exec (.staAbs 0x1FFF) base = .next t) ∧ storeAddrs (.staAbs 0x1FFF) base = [0x1FFF] ∧
      region 0x1FFE ≠ region 0x1FFF) ∧
    ((∃ t, exec (.jsrAbs 0x9000) { base with sp := 0 } = .next t) ∧
      storeAddrs (.jsrAbs 0x9000) { base with sp := 0 } = [0x0100, 0x01FF] ∧
      region 0x01FE ≠ region 0x0100 ∧ region 0x01FE ≠ region 0x01FF) ∧
    ((∃ t, exec (.cmpAbs 0x0010) base = .next t) ∧ storeAddrs (.cmpAbs 0x0010) base = []) :=
  ⟨by decide, ⟨next_of_completes (by decide +kernel), by decide +kernel, by decide +kernel⟩,
    ⟨next_of_completes (by decide +kernel), by decide +kernel, by decide +kernel⟩,
    next_of_completes (by decide +kernel), by decide +kernel⟩

theorem witness_PeripheralFrame :
    ((∃ t, exec (.incAbs 0x1FFF) base = .next t) ∧ dataAddrs (.incAbs 0x1FFF) base = [0x1FFF] ∧
      (storedByte base 0x1FFF).isSome = true) ∧
    ((∃ t, exec (.jmpInd 0x42FF) base = .next t) ∧ dataAddrs (.jmpInd 0x42FF) base = [0x42FF, 0x4200] ∧
      (storedByte base 0x42FF).isSome = true ∧ (storedByte base 0x4200).isSome = true) :=
  ⟨⟨next_of_completes (by decide +kernel), by decide +kernel, by decide +kernel⟩,
    next_of_completes (by decide +kernel), by decide +kernel, by decide +kernel⟩

end Sys2Proof.Tests
end

section
/-! The state of the machine (10_state.md): its invariant `State.wf` at the start and over a step, the cycles of a step,
and the power-on values. -/

namespace Sys2Proof.Machine

-- One step

/-- What an iteration that answers a next state has done: the host's turn, the interrupt check, a fetch, an
instruction, and the ticks (R421). -/
theorem step_eq_next {s t : State} : step s = .next t ↔
    s.fatal = none ∧ s.cfg.accepted = true ∧ ∃ i u v, fetchInstr (serviceInterrupts (hostTurn s)) = .ok i u ∧
      exec i u = .next v ∧ t = finishIteration (hostTurn s).cyc v := by
  constructor
  · intro h
    unfold step at h
    split at h
    · cases h
    · split at h
      · split at h
        · cases h
        · split at h
          · cases h
            exact ⟨‹_›, ‹_›, _, _, _, ‹_›, ‹_›, rfl⟩
          · cases h
          · cases h
      · cases h
  · rintro ⟨hf, hc, i, u, v, hi, hv, rfl⟩
    simp only [step, hf, hc, hi, hv, if_true]

theorem finishIteration_wf (c0 : Nat) {s : State} (h : s.wf = true) : (finishIteration c0 s).wf = true :=
  apuStep_stateWf _ (ticks_wf _ h)

/-- Settles O9: each part of the iteration keeps the invariant. -/
theorem wellFormedStateIsKept : Obligations.WellFormedStateIsKept := by
  intro s t hs h
  obtain ⟨-, -, i, u, v, hi, hv, rfl⟩ := step_eq_next.1 h
  exact finishIteration_wf _ (exec_wf hv (fetchInstr_wf hi (serviceInterrupts_wf (hostTurn_wf hs))))

-- Cycles

/-- Only an interrupt entry adds to the counter before the instruction: `INT_CYCLES` (R450, R482). -/
theorem serviceInterrupts_cyc (s : State) :
    (serviceInterrupts s).cyc = s.cyc + if s.nmiReq || (irqLine s && !s.i) then 7 else 0 := by
  unfold serviceInterrupts
  by_cases hn : s.nmiReq = true
  · rw [if_pos hn, if_pos (by rw [hn, Bool.true_or])]
    rfl
  · rw [if_neg hn, eq_false_of_ne_true hn, Bool.false_or]
    split <;> rfl

/-- The peripheral ticks and the audio step add no cycle (R480). -/
theorem finishIteration_cyc (c0 : Nat) (s : State) : (finishIteration c0 s).cyc = s.cyc :=
  ticks_cyc (s.cyc - c0) s

/-- Settles O12: the interrupt entry and the instruction add their cycles, the fetch and the ticks none. -/
theorem stepAddsItsCycles : Obligations.StepAddsItsCycles := by
  intro s t h
  obtain ⟨-, -, i, u, v, hi, hv, rfl⟩ := step_eq_next.1 h
  obtain ⟨k, hlo, hhi, hk⟩ := exec_cost hv
  refine ⟨k, hlo, hhi, ?_⟩
  rw [finishIteration_cyc, hk, fetchInstr_cyc hi, serviceInterrupts_cyc]
  omega

-- Launch

theorem Supply.wf_iff {u : Supply} : u.wf = true ↔
    memoryWf 0 0x800 u.ramInit = true ∧ memoryWf 0x4200 0x10000 u.cartInit = true ∧
    memoryWf 0 8192 u.patInit = true ∧ u.bootstrap.length ≤ 0x2000 := by
  simp [Supply.wf, and_assoc]

theorem powerOn_wf {p : Params} {u : Supply} (hp : p.accepted = true) (hu : u.wf = true) :
    (powerOn p u).wf = true := by
  obtain ⟨hram, hcart, hpat, -⟩ := Supply.wf_iff.1 hu
  have hppu : ppuWf { Ppu.powerOn with pat := u.patInit, mirror := u.mirroringInit } = true :=
    ppuWf_iff.2 ⟨rfl, hpat, rfl, rfl, rfl, (by decide : (0 : Byte) &&& 0x3F = 0), (by decide : 0 ≤ 340),
      (by decide : (-1 : Int) ≤ -1), (by decide : (-1 : Int) ≤ 260)⟩
  have hdsk : diskWf p Disk.powerOn = true := diskWf_iff.2 ⟨rfl, by decide, fun _ => Nat.zero_le _⟩
  exact wf_iff.2 ⟨rfl, rfl, rfl, rfl, hp, hram, hcart, hppu, rfl, hdsk⟩

/-- A bootstrap of at most 8 KiB ends within cartridge space (R57). -/
theorem loadBootstrap_wf {boot : List Byte} (hb : boot.length ≤ 0x2000) {s : State} (h : s.wf = true) :
    (loadBootstrap boot s).wf = true := by
  unfold loadBootstrap
  split
  · rw [wf_iff] at *
    obtain ⟨h1, h2, h3, h4, h5, h6, hcart, h8⟩ := h
    exact ⟨h1, h2, h3, h4, h5, h6, fillCells_wf boot hcart (by omega) (by omega), h8⟩
  · exact h

theorem launchWith_wf {p : Params} {u : Supply} (hp : p.accepted = true) (hu : u.wf = true) :
    (launchWith p u).wf = true := by
  obtain ⟨-, -, -, hboot⟩ := Supply.wf_iff.1 hu
  exact resetCpu_wf (loadBootstrap_wf hboot (powerOn_wf hp hu))

/-- A cartridge whose bytes fit, put into a supply that fits, the second copy of a 16 KiB program included (R56). -/
theorem withCartridge_wf {u : Supply} {k : Cartridge} (hu : u.wf = true) (hprog : k.program.length ≤ 0x8000)
    (hpat : k.pattern.length ≤ 0x2000) : (u.withCartridge k).wf = true := by
  obtain ⟨hram, hcart, hpat0, hboot⟩ := Supply.wf_iff.1 hu
  have hfirst := fillCells_wf k.program hcart (k := 0x8000) (by omega) (by omega)
  refine Supply.wf_iff.2 ⟨hram, ?_, fillCells_wf k.pattern hpat0 (by omega) (by omega), hboot⟩
  unfold Supply.withCartridge
  dsimp only
  split
  · exact fillCells_wf k.program hfirst (by omega) (by omega)
  · exact hfirst

/-- A supply of nothing but a bootstrap. -/
theorem bootstrapSupply_wf {boot : List Byte} (hb : boot.length ≤ 0x2000) :
    ({ bootstrap := boot } : Supply).wf = true :=
  Supply.wf_iff.2 ⟨rfl, rfl, rfl, hb⟩

/-- Settles O10: the supply of each launch fits, and a launch of a supply that fits is well formed. -/
theorem wellFormedAtReset : Obligations.WellFormedAtReset := by
  refine ⟨by decide, fun p hp => ⟨?_, ?_, ?_, ?_⟩⟩
  · exact fun u hu => launchWith_wf hp hu
  · exact fun u k hu hprog hpat => launchWith_wf hp (withCartridge_wf hu hprog hpat)
  · exact fun k hprog hpat => launchWith_wf hp (withCartridge_wf (bootstrapSupply_wf (Nat.zero_le _)) hprog hpat)
  · exact fun boot hb => launchWith_wf hp (bootstrapSupply_wf hb)

/-- A launch leaves what `State.reset` holds but for the parameters, what the supply places, and `pc` (R39, R426). -/
theorem launchWith_eq (p : Params) (u : Supply) : ∃ pc cart,
    launchWith p u = { State.reset with
      pc := pc, cart := cart, ram := u.ramInit, cfg := p,
      ppu := { Ppu.powerOn with pat := u.patInit, mirror := u.mirroringInit } } := by
  unfold launchWith loadBootstrap
  split <;> exact ⟨_, _, rfl⟩

/-- Settles O14: every field but `pc` and cartridge space is read off `launchWith_eq`. -/
theorem powerOnValues : Obligations.PowerOnValues := by
  intro p u
  obtain ⟨pc, cart, h⟩ := launchWith_eq p u
  rw [h]
  exact ⟨rfl, rfl, rfl, rfl, rfl, rfl, rfl, rfl, rfl, rfl, rfl, rfl, rfl, rfl, rfl, rfl, rfl, rfl, rfl, rfl, rfl,
    rfl, fun _ => ⟨rfl, rfl, rfl, rfl, rfl⟩⟩

end Sys2Proof.Machine
end

section
/-! The memory bus (20_memory.md): where an address goes, what one access changes, the missing hook, the bulk copy, and
the frames of every instruction on memory and on the peripherals. -/

namespace Sys2Proof.Machine

-- Regions

theorem region_of_bulkCopyAddr {a : Word} (h : a.toNat = 0x4014) : region a = .bulkCopy := by
  rw [show a = 0x4014 from BitVec.eq_of_toNat_eq h, region_bulkCopy]

/-- The I/O window with the bulk-copy address in it (R45, R49). -/
theorem region_ioWindow {a : Word} (h : 0x4000 ≤ a.toNat) (h' : a.toNat ≤ 0x41FF) :
    region a = .bulkCopy ∨ region a = .io := by
  by_cases hb : a.toNat = 0x4014
  · exact .inl (region_of_bulkCopyAddr hb)
  · exact .inr (region_io h h' hb)

theorem region_eq_ram_iff {a : Word} {k : Nat} : region a = .ram k ↔ a.toNat < 0x2000 ∧ a.toNat % 0x800 = k := by
  constructor
  · intro h
    obtain ⟨ha, hr⟩ | ⟨-, -, hr⟩ | ⟨-, hr⟩ | ⟨-, -, -, hr⟩ | ⟨-, hr⟩ := region_cases a
    all_goals rw [hr] at h; cases h
    exact ⟨ha, rfl⟩
  · rintro ⟨ha, rfl⟩
    exact region_ram (by omega)

theorem region_eq_cart_iff {a : Word} {k : Nat} : region a = .cart k ↔ 0x4200 ≤ a.toNat ∧ a.toNat = k := by
  constructor
  · intro h
    obtain ⟨-, hr⟩ | ⟨-, -, hr⟩ | ⟨-, hr⟩ | ⟨-, -, -, hr⟩ | ⟨ha, hr⟩ := region_cases a
    all_goals rw [hr] at h; cases h
    exact ⟨ha, rfl⟩
  · rintro ⟨ha, rfl⟩
    exact region_cart ha

/-- Settles O21: the region is chosen by the address's range, the register of the pixel window by its low three bits. -/
theorem regionOfEveryAddress : Obligations.RegionOfEveryAddress := by
  intro a
  refine ⟨region_ram, region_ppu, region_of_bulkCopyAddr, region_io, region_cart, ?_⟩
  unfold ppuReg
  refine ⟨?_, ?_, ?_, ?_, ?_, ?_, ?_, ?_⟩ <;> intro h <;> simp only [h]

theorem ppuReg_eq_status {a : Word} : ppuReg a = .status ↔ a.toNat % 8 = 2 := by
  unfold ppuReg
  split <;> simp_all

theorem ppuReg_eq_vramData {a : Word} : ppuReg a = .vramData ↔ a.toNat % 8 = 7 := by
  unfold ppuReg
  split <;> simp_all; omega

-- Stored bytes

theorem storedByte_ram {a : Word} (s : State) (h : a.toNat < 0x2000) :
    storedByte s a = some (readCell s.ram (a.toNat % 0x800)) := by
  simp [storedByte, region_ram (Nat.le_of_lt_succ h)]

theorem storedByte_of_region_eq {a b : Word} (s : State) (h : region b = region a) :
    storedByte s b = storedByte s a := by
  simp [storedByte, h]

/-- A write leaves every stored byte of another cell (R43, R47). -/
theorem busWrite_storedByte_other {a b : Word} {w : Byte} {s t : State} (hram : memoryWf 0 0x800 s.ram = true)
    (hcart : memoryWf 0x4200 0x10000 s.cart = true) (h : busWrite a w s = .ok () t) (hne : region b ≠ region a) :
    storedByte t b = storedByte s b := by
  rw [busWrite_storedByte hram hcart h, if_neg fun hc => hne hc.1]

/-- A byte written to RAM or cartridge space is read at every address of its cell (R43, R47). -/
theorem busRead_of_busWrite {a b : Word} {w : Byte} {s t : State} (hram : memoryWf 0 0x800 s.ram = true)
    (hcart : memoryWf 0x4200 0x10000 s.cart = true) (h : busWrite a w s = .ok () t) (heq : region b = region a)
    (hs : (storedByte s a).isSome = true) : busRead b t = .ok w t := by
  refine busRead_stored ?_
  rw [busWrite_storedByte hram hcart h, if_pos ⟨heq, by rwa [storedByte_of_region_eq s heq]⟩]

/-- Settles O22: a write to RAM or cartridge space is read back at the addresses of the same region value, and only
there. -/
theorem storedBytesReadBack : Obligations.StoredBytesReadBack := by
  intro s a w hram hcart
  refine ⟨fun ha => ?_, fun ha => ?_, ?_⟩
  · have hr := region_ram (Nat.le_of_lt_succ ha)
    have hw := busWrite_ram w s hr
    refine ⟨_, hw, rfl, fun b hb hmod => ?_, fun b hb => ?_⟩
    · refine busRead_of_busWrite hram hcart hw ?_ (by rw [storedByte_ram s ha]; rfl)
      rw [hr]
      exact region_eq_ram_iff.2 ⟨hb, hmod⟩
    · refine busWrite_storedByte_other hram hcart hw fun heq => ?_
      rw [hr, region_eq_ram_iff] at heq
      omega
  · have hr := region_cart ha
    have hw := busWrite_cart w s hr
    refine ⟨_, hw, rfl, busRead_of_busWrite hram hcart hw rfl (by rw [storedByte_cart s ha]; rfl), fun b hb => ?_⟩
    refine busWrite_storedByte_other hram hcart hw fun heq => hb (BitVec.eq_of_toNat_eq ?_)
    rw [hr, region_eq_cart_iff] at heq
    exact heq.2
  · rintro (ha | ha)
    · exact ⟨_, storedByte_ram s ha, busRead_stored (storedByte_ram s ha)⟩
    · exact ⟨_, storedByte_cart s ha, busRead_stored (storedByte_cart s ha)⟩

-- Reads

/-- A read that completes where a byte is stored has no side effect (R43, R47). -/
theorem busRead_state_of_stored {a : Word} {s t : State} {w : Byte} (h : busRead a s = .ok w t)
    (hs : (storedByte s a).isSome = true) : t = s := by
  obtain ⟨r, hr⟩ := Option.isSome_iff_exists.1 hs
  rw [busRead_stored hr] at h
  cases h
  rfl

/-- A register of the pixel window is read inside the pixel processor; some reads draw a free byte (R270). -/
theorem ppuRegRead_frame {r : PpuReg} {s t : State} {w : Byte} (h : ppuRegRead r s = .ok w t) :
    t = { s with ppu := t.ppu, freeReads := t.freeReads } := by
  cases r <;> simp only [ppuRegRead, freeRead] at h
  case vramData => split at h <;> cases h; rfl
  all_goals cases h; rfl

/-- Only the status register and the data port have a side effect on the pixel processor (R54). -/
theorem ppuRegRead_ppu {r : PpuReg} {s t : State} {w : Byte} (h : ppuRegRead r s = .ok w t) (hst : r ≠ .status)
    (hda : r ≠ .vramData) : t.ppu = s.ppu := by
  cases r <;> simp only [ppuRegRead, freeRead] at h
  case status => exact absurd rfl hst
  case vramData => exact absurd rfl hda
  all_goals cases h; rfl

theorem busRead_ppuWindow {a : Word} {s t : State} {w : Byte} (h : busRead a s = .ok w t) (h1 : 0x2000 ≤ a.toNat)
    (h2 : a.toNat ≤ 0x3FFF) : ppuRegRead (ppuReg a) s = .ok w t := by
  simp only [busRead, region_ppu h1 h2] at h
  split at h
  · exact h
  · cases h

theorem busRead_ioWindow {a : Word} {s : State} (h1 : 0x4000 ≤ a.toNat) (h2 : a.toNat ≤ 0x41FF) :
    busRead a s = ioWindowRead a s := by
  obtain hr | hr := region_ioWindow h1 h2 <;> simp only [busRead, hr]

/-- Settles O24: `busRead_effect`, and region by region what the read may touch of it. -/
theorem readsChangeOnlySideEffects : Obligations.ReadsChangeOnlySideEffects := by
  intro s t a w h
  have hstored : a.toNat < 0x2000 ∨ 0x4200 ≤ a.toNat → t = s := by
    rintro (ha | ha)
    · exact busRead_state_of_stored h (by rw [storedByte_ram s ha]; rfl)
    · exact busRead_state_of_stored h (by rw [storedByte_cart s ha]; rfl)
  have hio : 0x4000 ≤ a.toNat → a.toNat ≤ 0x41FF → t.ppu = s.ppu := fun h1 h2 =>
    ioWindowRead_ppu (busRead_ioWindow h1 h2 ▸ h)
  refine ⟨busRead_effect h, hstored, fun h1 h2 => ?_, hio, fun hst hda => ?_⟩
  · rw [ppuRegRead_frame (busRead_ppuWindow h h1 h2)]
    exact ⟨rfl, rfl⟩
  · by_cases hwin : a.toNat < 0x2000 ∨ 0x4200 ≤ a.toNat
    · rw [hstored hwin]
    by_cases hppu : a.toNat ≤ 0x3FFF
    · have hr := busRead_ppuWindow h (by omega) hppu
      exact ppuRegRead_ppu hr (mt ppuReg_eq_status.1 hst) (mt ppuReg_eq_vramData.1 hda)
    · exact hio (by omega) (by omega)

-- The bulk copy

/-- One byte of the copy (R48): the read with its side effects, then the store into sprite memory; a read that raises a
condition leaves the state it is raised in. -/
def copyStep (page : Byte) (k : Nat) (s : State) : State :=
  match busRead (BitVec.ofNat 16 (page.toNat * 256 + k)) s with
  | .ok w u => { u with ppu := { u.ppu with oam := writeCell u.ppu.oam k w } }
  | .stop _ u => u

/-- The states that the copy goes through from `s` on, one per byte. -/
def copyStates (page : Byte) (s : State) : Nat → State
  | 0 => s
  | k + 1 => copyStep page k (copyStates page s k)

theorem copyStep_of_ok {page : Byte} {k : Nat} {s u : State} {w : Byte}
    (h : busRead (BitVec.ofNat 16 (page.toNat * 256 + k)) s = .ok w u) :
    copyStep page k s = { u with ppu := { u.ppu with oam := writeCell u.ppu.oam k w } } := by
  simp only [copyStep, h]

theorem copyStates_succ_of_ok {page : Byte} {k : Nat} {s u : State} {w : Byte}
    (h : busRead (BitVec.ofNat 16 (page.toNat * 256 + k)) (copyStates page s k) = .ok w u) :
    copyStates page s (k + 1) = { u with ppu := { u.ppu with oam := writeCell u.ppu.oam k w } } :=
  copyStep_of_ok h

/-- Where the k-th read raises nothing, the next state of the chain is its state with the byte stored. -/
theorem copyStates_link {page : Byte} {k : Nat} {s : State}
    (h : readOk (copyStates page s k) (BitVec.ofNat 16 (page.toNat * 256 + k)) = true) :
    ∃ w u, busRead (BitVec.ofNat 16 (page.toNat * 256 + k)) (copyStates page s k) = .ok w u ∧
      copyStates page s (k + 1) = { u with ppu := { u.ppu with oam := writeCell u.ppu.oam k w } } := by
  obtain ⟨w, u, hu⟩ := busRead_ok h
  exact ⟨w, u, hu, copyStates_succ_of_ok hu⟩

/-- A copy that goes on from the k-th state of the chain and completes ends in the chain, and its reads raised
nothing. -/
theorem copyBytes_eq_ok {page : Byte} {s t : State} {n k : Nat}
    (h : copyBytes page n k (copyStates page s k) = .ok () t) :
    t = copyStates page s (k + n) ∧ ∀ j, k ≤ j → j < k + n →
      readOk (copyStates page s j) (BitVec.ofNat 16 (page.toNat * 256 + j)) = true := by
  induction n generalizing k with
  | zero =>
    cases h
    exact ⟨rfl, fun j _ _ => by omega⟩
  | succ n ih =>
    cases hr : readOk (copyStates page s k) (BitVec.ofNat 16 (page.toNat * 256 + k)) with
    | false =>
      rw [copyBytes_stop (busRead_stop hr)] at h
      cases h
    | true =>
      obtain ⟨w, u, hu, hnext⟩ := copyStates_link hr
      rw [copyBytes_succ hu, ← hnext] at h
      obtain ⟨ht, hreads⟩ := ih h
      refine ⟨by rw [ht, Nat.add_right_comm, Nat.add_assoc], fun j h1 h2 => ?_⟩
      obtain rfl | hlt := Nat.eq_or_lt_of_le h1
      · exact hr
      · exact hreads j hlt (by omega)

/-- A copy that goes on from the k-th state of the chain and stops does so at the first read that raises a condition,
in the state of the chain that read starts from. -/
theorem copyBytes_eq_stop {page : Byte} {s t : State} {c : Fatal} {n k : Nat}
    (h : copyBytes page n k (copyStates page s k) = .stop c t) :
    ∃ m, k ≤ m ∧ m < k + n ∧ t = copyStates page s m ∧
      busRead (BitVec.ofNat 16 (page.toNat * 256 + m)) (copyStates page s m) = .stop c t ∧
      ∀ j, k ≤ j → j < m → readOk (copyStates page s j) (BitVec.ofNat 16 (page.toNat * 256 + j)) = true := by
  induction n generalizing k with
  | zero => cases h
  | succ n ih =>
    cases hr : readOk (copyStates page s k) (BitVec.ofNat 16 (page.toNat * 256 + k)) with
    | false =>
      have hstop := busRead_stop hr
      rw [copyBytes_stop hstop] at h
      cases h
      exact ⟨k, Nat.le_refl k, by omega, rfl, hstop, fun j _ _ => by omega⟩
    | true =>
      obtain ⟨w, u, hu, hnext⟩ := copyStates_link hr
      rw [copyBytes_succ hu, ← hnext] at h
      obtain ⟨m, hkm, hmn, ht, hstop, hreads⟩ := ih h
      refine ⟨m, by omega, by omega, ht, hstop, fun j h1 h2 => ?_⟩
      obtain rfl | hlt := Nat.eq_or_lt_of_le h1
      · exact hr
      · exact hreads j hlt h2

/-- A write of the bulk-copy address that completes: every read of the chain raised nothing, and it ends in the chain's
last state (R48). -/
theorem busWrite_bulkCopy_eq_ok {page : Byte} {s t : State} (h : busWrite 0x4014 page s = .ok () t) :
    t = copyStates page s 256 ∧
      ∀ k < 256, readOk (copyStates page s k) (BitVec.ofNat 16 (page.toNat * 256 + k)) = true := by
  simp only [busWrite, region_bulkCopy] at h
  obtain ⟨ht, hreads⟩ := copyBytes_eq_ok (k := 0) (s := s) h
  exact ⟨ht, fun k hk => hreads k (by omega) (by omega)⟩

/-- One that stops: as the first read of the chain that raises a condition (R48). -/
theorem busWrite_bulkCopy_eq_stop {page : Byte} {s t : State} {c : Fatal} (h : busWrite 0x4014 page s = .stop c t) :
    ∃ n < 256, t = copyStates page s n ∧
      busRead (BitVec.ofNat 16 (page.toNat * 256 + n)) (copyStates page s n) = .stop c t ∧
      ∀ k < n, readOk (copyStates page s k) (BitVec.ofNat 16 (page.toNat * 256 + k)) = true := by
  simp only [busWrite, region_bulkCopy] at h
  obtain ⟨n, -, hn, ht, hstop, hreads⟩ := copyBytes_eq_stop (k := 0) (s := s) h
  exact ⟨n, by omega, ht, hstop, fun k hk => hreads k (by omega) hk⟩

theorem writeOk_bulkCopy (s : State) (page : Byte) : writeOk s 0x4014 page = copyOk s page := by
  simp only [writeOk, region_bulkCopy]

/-- A page of RAM or cartridge space: every address of it holds a stored byte. -/
theorem storedByte_page {page : Byte} (h : page.toNat < 0x20 ∨ 0x42 ≤ page.toNat) {k : Nat} (hk : k < 256)
    (s : State) : ∃ w, storedByte s (BitVec.ofNat 16 (page.toNat * 256 + k)) = some w := by
  have ha := copyAddr_toNat (page := page) hk
  obtain h | h := h
  · exact ⟨_, storedByte_ram s (by omega)⟩
  · exact ⟨_, storedByte_cart s (by omega)⟩

/-- From a page of RAM or cartridge space the chain changes sprite memory alone, and its first k cells hold the first k
bytes of the page. -/
theorem copyStates_storedPage {page : Byte} {s : State} (h : page.toNat < 0x20 ∨ 0x42 ≤ page.toNat)
    (hoam : memoryWf 0 256 s.ppu.oam = true) {k : Nat} (hk : k ≤ 256) :
    let t := copyStates page s k
    t = { s with ppu := { s.ppu with oam := t.ppu.oam } } ∧ memoryWf 0 256 t.ppu.oam = true ∧
      ∀ j < k, storedByte s (BitVec.ofNat 16 (page.toNat * 256 + j)) = some (readCell t.ppu.oam j) := by
  induction k with
  | zero => exact ⟨rfl, hoam, fun j hj => by omega⟩
  | succ k ih =>
    obtain ⟨hframe, hwf, hcells⟩ := ih (by omega)
    obtain ⟨w, hw⟩ := storedByte_page h (k := k) (by omega) s
    have hread : busRead (BitVec.ofNat 16 (page.toNat * 256 + k)) (copyStates page s k) = .ok w (copyStates page s k) :=
      busRead_stored (by rw [hframe]; exact hw)
    rw [copyStates_succ_of_ok hread]
    refine ⟨by rw [hframe], writeCell_wf w hwf (by omega) (by omega), fun j hj => ?_⟩
    dsimp only
    rw [readCell_writeCell hwf]
    split
    · subst j
      exact hw
    · exact hcells j (by omega)

theorem copyOk_of_storedPage {page : Byte} (h : page.toNat < 0x20 ∨ 0x42 ≤ page.toNat) (s : State) :
    copyOk s page = true := by
  obtain h | h := h
  · rw [copyOk, if_pos h]
  · rw [copyOk, if_neg (by omega), if_neg (by omega), if_neg (by omega)]

/-- Settles O26: the chain is `copyStates`. -/
theorem bulkCopyIs256OrderedReads : Obligations.BulkCopyIs256OrderedReads := by
  refine ⟨fun s v hok => ?_, fun s v hok => ?_, fun s v hoam hv => ?_⟩
  · rw [← writeOk_bulkCopy] at hok
    obtain ⟨t, hw⟩ := busWrite_ok hok
    obtain ⟨rfl, hreads⟩ := busWrite_bulkCopy_eq_ok hw
    exact ⟨copyStates v s, rfl, hw, fun k hk => copyStates_link (hreads k hk)⟩
  · rw [← writeOk_bulkCopy] at hok
    obtain ⟨c, t, hw⟩ := busWrite_stop hok
    obtain ⟨n, hn, rfl, hstop, hreads⟩ := busWrite_bulkCopy_eq_stop hw
    exact ⟨copyStates v s, n, c, hn, rfl, hw, hstop, fun k hk => copyStates_link (hreads k hk)⟩
  · obtain ⟨t, hw⟩ := busWrite_ok (w := v) ((writeOk_bulkCopy s v).trans (copyOk_of_storedPage hv s))
    obtain ⟨rfl, -⟩ := busWrite_bulkCopy_eq_ok hw
    obtain ⟨hframe, -, hcells⟩ := copyStates_storedPage hv hoam (Nat.le_refl 256)
    exact ⟨_, hw, hframe, hcells⟩

/-- What a bulk copy may change: sprite memory, and what its reads may (R48, R54). -/
def CopyEffect (s t : State) : Prop :=
  t = { s with
    ppu := { s.ppu with
      oam := t.ppu.oam, status := t.ppu.status, wlatch := t.ppu.wlatch, vaddr := t.ppu.vaddr, rbuf := t.ppu.rbuf },
    ctl := { s.ctl with shift0 := t.ctl.shift0, shift1 := t.ctl.shift1 },
    dsk := { s.dsk with xferFlag := t.dsk.xferFlag, timerFlag := t.dsk.timerFlag },
    freeReads := t.freeReads }

theorem CopyEffect.trans {s t u : State} (h : CopyEffect s t) (h' : CopyEffect t u) : CopyEffect s u := by
  unfold CopyEffect at *
  rw [h', h]

theorem copyStep_effect (page : Byte) (k : Nat) (s : State) : CopyEffect s (copyStep page k s) := by
  cases hr : readOk s (BitVec.ofNat 16 (page.toNat * 256 + k)) with
  | true =>
    obtain ⟨w, u, hu⟩ := busRead_ok hr
    rw [copyStep_of_ok hu, busRead_effect hu]
    rfl
  | false =>
    simp only [copyStep, busRead_stop hr]
    rfl

theorem copyStates_effect (page : Byte) (s : State) (k : Nat) : CopyEffect s (copyStates page s k) := by
  induction k with
  | zero => rfl
  | succ k ih => exact ih.trans (copyStep_effect page k _)

-- The missing hook

/-- With both hooks installed a read that raises a condition is one of the data port out of its window (R50, R287). -/
theorem busRead_stop_of_hooks {a : Word} {s t : State} {c : Fatal} (hp : s.ppuHook = true) (hi : s.ioHook = true)
    (h : busRead a s = .stop c t) : c = .vramRange s.ppu.vaddr := by
  cases hr : readOk s a with
  | true =>
    obtain ⟨w, u, hu⟩ := busRead_ok hr
    rw [hu] at h
    cases h
  | false =>
    rw [busRead_stop hr] at h
    cases h
    cases ha : region a with
    | ppu r => simp only [accessFault, ha, hp, if_true]
    | _ => simp [readOk, ha, hi] at hr

/-- So does a write; a bulk copy stops as one of its reads (R48, R50, R287). -/
theorem busWrite_stop_of_hooks {a : Word} {w : Byte} {s t : State} {c : Fatal} (hp : s.ppuHook = true)
    (hi : s.ioHook = true) (h : busWrite a w s = .stop c t) : ∃ v, c = .vramRange v := by
  obtain ⟨-, hr⟩ | ⟨-, -, hr⟩ | ⟨rfl, -⟩ | ⟨-, -, -, hr⟩ | ⟨-, hr⟩ := region_cases a
  case inr.inl =>
    simp only [busWrite, hr, hp, if_true, ppuRegWrite] at h
    split at h
    · cases h
      exact ⟨_, rfl⟩
    · cases h
  case inr.inr.inl =>
    obtain ⟨n, -, -, hstop, -⟩ := busWrite_bulkCopy_eq_stop h
    have he := copyStates_effect w s n
    exact ⟨_, busRead_stop_of_hooks (by rw [he]; exact hp) (by rw [he]; exact hi) hstop⟩
  all_goals simp only [busWrite, hr, hi, if_true, reduceCtorEq] at h

/-- Settles O23: without its hook a window answers at once; with both, only the data port stops an access. -/
theorem unhookedWindowIsFatal : Obligations.UnhookedWindowIsFatal := by
  refine ⟨fun s a w hh h1 h2 => ?_, fun s a w hh h1 h2 => ⟨?_, fun hne => ?_⟩,
    fun s t a b w hp hi => ⟨fun h => ?_, fun h => ?_⟩⟩
  · simp [busRead, busWrite, region_ppu h1 h2, hh]
  · simp [busRead_ioWindow h1 h2, ioWindowRead, hh]
  · simp [busWrite, region_io h1 h2 hne, hh]
  · cases busRead_stop_of_hooks hp hi h
  · obtain ⟨v, hv⟩ := busWrite_stop_of_hooks hp hi h
    cases hv

-- Writes

theorem busWrite_ppuWindow {a : Word} {w : Byte} {s t : State} (h : busWrite a w s = .ok () t) (h1 : 0x2000 ≤ a.toNat)
    (h2 : a.toNat ≤ 0x3FFF) : ppuRegWrite (ppuReg a) w s = .ok () t := by
  simp only [busWrite, region_ppu h1 h2] at h
  split at h
  · exact h
  · cases h

theorem busWrite_ioWindow {a : Word} {w : Byte} {s t : State} (h : busWrite a w s = .ok () t) (h1 : 0x4000 ≤ a.toNat)
    (h2 : a.toNat ≤ 0x41FF) (hne : a.toNat ≠ 0x4014) : t = ioWrite (ioReg a) w s := by
  simp only [busWrite, region_io h1 h2 hne] at h
  split at h <;> cases h
  rfl

/-- No disk register lies below `$4020`. -/
theorem ioReg_of_low {a : Word} (h : a.toNat ≤ 0x401F) (q : DiskReg) : ioReg a ≠ .disk q := by
  unfold ioReg
  split <;> simp <;> omega

/-- No audio or controller register lies from `$4020` on. -/
theorem ioReg_of_high {a : Word} (h : 0x4020 ≤ a.toNat) : (∃ q, ioReg a = .disk q) ∨ ioReg a = .unassigned := by
  unfold ioReg
  split <;> simp <;> omega

/-- The other registers of the I/O window belong to the audio processor and the controllers (R46). -/
theorem ioWrite_audio {r : IoReg} (h : ∀ q, r ≠ .disk q) (w : Byte) (s : State) :
    ioWrite r w s = { s with apu := (ioWrite r w s).apu, ctl := (ioWrite r w s).ctl } := by
  cases r
  case disk q => exact absurd rfl (h q)
  case strobe => simp only [ioWrite, strobeWrite]; split <;> rfl
  all_goals rfl

/-- A disk register belongs to the disk system, which also sets the mirroring flag (R393). -/
theorem ioWrite_disk (q : DiskReg) (w : Byte) (s : State) :
    ioWrite (.disk q) w s = { s with
      dsk := (ioWrite (.disk q) w s).dsk,
      ppu := { s.ppu with mirror := (ioWrite (.disk q) w s).ppu.mirror } } := by
  simp only [ioWrite]
  split
  · cases q <;> rfl
  · rfl

/-- Settles O25: region by region, what the register's own write changes. -/
theorem writesChangeOnlyTheirUnit : Obligations.WritesChangeOnlyTheirUnit := by
  intro s t a w h
  refine ⟨busWrite_effect h, fun h1 h2 => ?_, fun h1 h2 hne => ?_, fun h1 h2 => ?_, fun ha => ?_⟩
  · exact ppuRegWrite_effect (busWrite_ppuWindow h h1 h2)
  · rw [busWrite_ioWindow h h1 (by omega) hne]
    exact ioWrite_audio (ioReg_of_low h2) w s
  · rw [busWrite_ioWindow h (by omega) h2 (by omega)]
    obtain ⟨q, hq⟩ | hq := ioReg_of_high h1 <;> rw [hq]
    · exact ioWrite_disk q w s
    · rfl
  · obtain rfl : a = 0x4014 := BitVec.eq_of_toNat_eq ha
    obtain ⟨rfl, -⟩ := busWrite_bulkCopy_eq_ok h
    exact copyStates_effect w s 256

-- The frames of an instruction

/-- Settles O59: shape by shape, each store of the instruction is at one of `storeAddrs`. -/
theorem memoryFrame : Obligations.MemoryFrame := by
  intro i s t hram hcart h a ha
  cases exec_shape i with
  | read o base g stores data regs same keeps lo hi run =>
    rw [run] at h
    obtain ⟨w, u, hu, rfl⟩ := readClass_inv h
    rw [(spend_regsOnly _ _).stored, (regs w u).stored, (loadOperand_effect hu).storedByte]
  | store m base v stores data lo hi run =>
    rw [run] at h
    obtain ⟨u, hu, rfl⟩ := storeClass_inv h
    have hne := ha _ (by rw [stores]; exact List.mem_singleton_self _)
    rw [(spend_regsOnly _ _).stored, busWrite_storedByte_other hram hcart hu hne]
  | rmw m base f g stores data regs same keeps lo hi run =>
    rw [run] at h
    obtain ⟨w, u, v, hu, hv, rfl⟩ := rmwClass_inv h
    have hne := ha _ (by rw [stores]; exact List.mem_singleton_self _)
    have he := busRead_effect hu
    rw [(spend_regsOnly _ _).stored, (regs _ v).stored,
      busWrite_storedByte_other (by rw [he]; exact hram) (by rw [he]; exact hcart) hv hne, he.storedByte]
  | regs cost g stores data regs same keeps lo hi run =>
    rw [run] at h
    cases h
    rw [(spend_regsOnly _ _).stored, (regs s).stored]
  | push base bytes g stores data few regs same keeps lo hi run =>
    rw [run] at h
    cases h
    rw [(spend_regsOnly _ _).stored, (regs _).stored,
      pushAll_others _ hram a fun k hk => ha _ (stores s k hk)]
  | jump p stores data run =>
    rw [run] at h
    obtain ⟨lo, u, hi, v, hu, hv, rfl⟩ := jump_inv h
    have hregs : RegsOnly v (spend 5 { v with pc := joinBytes hi lo }) := rfl
    rw [hregs.stored, (busRead_effect hv).storedByte, (busRead_effect hu).storedByte]
  | stop op mem run =>
    rw [run] at h
    cases h

/-- Reading an operand that lies in RAM or cartridge space, or in no memory at all, changes nothing. -/
theorem loadOperand_state_of_stored {o : Operand} {s t : State} {w : Byte} (h : loadOperand o s = .ok w t)
    (hs : ∀ a ∈ operandAddrs o s, (storedByte s a).isSome = true) : t = s := by
  cases o with
  | acc => cases h; rfl
  | imm v => cases h; rfl
  | mem m => exact busRead_state_of_stored h (hs _ (List.mem_singleton_self _))

/-- The peripherals' own state and the count of free bytes are as before (R60). -/
def SamePeripherals (s t : State) : Prop :=
  t.ppu = s.ppu ∧ t.apu = s.apu ∧ t.ctl = s.ctl ∧ t.dsk = s.dsk ∧ t.freeReads = s.freeReads

theorem SamePeripherals.refl (s : State) : SamePeripherals s s := ⟨rfl, rfl, rfl, rfl, rfl⟩

theorem SamePeripherals.trans {s t u : State} (h : SamePeripherals s t) (h' : SamePeripherals t u) :
    SamePeripherals s u := by
  obtain ⟨hppu, hapu, hctl, hdsk, hfree⟩ := h
  obtain ⟨hppu', hapu', hctl', hdsk', hfree'⟩ := h'
  exact ⟨hppu'.trans hppu, hapu'.trans hapu, hctl'.trans hctl, hdsk'.trans hdsk, hfree'.trans hfree⟩

theorem RegsOnly.samePeripherals {s t : State} (h : RegsOnly s t) : SamePeripherals s t := h.periph

theorem spend_samePeripherals {s t : State} (cost : Nat) (h : SamePeripherals s t) :
    SamePeripherals s (spend cost t) := h

/-- Settles O60: shape by shape, a data access of RAM or cartridge space leaves the peripherals, and nothing else of an
instruction reaches them. -/
theorem peripheralFrame : Obligations.PeripheralFrame := by
  intro i s t h hdata
  change SamePeripherals s t
  cases exec_shape i with
  | read o base g stores data regs same keeps lo hi run =>
    rw [run] at h
    obtain ⟨w, u, hu, rfl⟩ := readClass_inv h
    rw [data] at hdata
    obtain rfl := loadOperand_state_of_stored hu hdata
    exact spend_samePeripherals _ (regs w u).samePeripherals
  | store m base v stores data lo hi run =>
    rw [run] at h
    obtain ⟨u, hu, rfl⟩ := storeClass_inv h
    have hs := hdata _ (by rw [data]; exact List.mem_singleton_self _)
    exact spend_samePeripherals _ (busWrite_stored_periph hu hs)
  | rmw m base f g stores data regs same keeps lo hi run =>
    rw [run] at h
    obtain ⟨w, u, v, hu, hv, rfl⟩ := rmwClass_inv h
    have hs := hdata _ (by rw [data]; exact List.mem_singleton_self _)
    obtain rfl := busRead_state_of_stored hu hs
    have hwrite : SamePeripherals u v := busWrite_stored_periph hv hs
    exact spend_samePeripherals _ (hwrite.trans (regs _ v).samePeripherals)
  | regs cost g stores data regs same keeps lo hi run =>
    rw [run] at h
    cases h
    exact spend_samePeripherals _ (regs s).samePeripherals
  | push base bytes g stores data few regs same keeps lo hi run =>
    rw [run] at h
    cases h
    have hpush : SamePeripherals s (pushAll (bytes s) s) := pushAll_periph _ _
    exact spend_samePeripherals _ (hpush.trans (regs _).samePeripherals)
  | jump p stores data run =>
    rw [run] at h
    obtain ⟨lo, u, hi, v, hu, hv, rfl⟩ := jump_inv h
    rw [data] at hdata
    obtain rfl := busRead_state_of_stored hu (hdata _ List.mem_cons_self)
    obtain rfl := busRead_state_of_stored hv (hdata _ (List.mem_cons_of_mem _ (List.mem_singleton_self _)))
    exact .refl _
  | stop op mem run =>
    rw [run] at h
    cases h

-- Launch

theorem readCell_fillCells_inside {lo hi k j : Nat} {m : Memory} {ws : List Byte} {w : Byte}
    (hm : memoryWf lo hi m = true) (hlo : lo ≤ k) (hhi : k + ws.length ≤ hi) (hj : ws[j]? = some w) :
    readCell (fillCells m k ws) (k + j) = w := by
  rw [readCell_fillCells ws hm hlo hhi, if_pos (by omega), Nat.add_sub_cancel_left, List.getD_eq_getElem?_getD, hj]
  rfl

theorem readCell_fillCells_outside {lo hi k c : Nat} {m : Memory} {ws : List Byte} (hm : memoryWf lo hi m = true)
    (hlo : lo ≤ k) (hhi : k + ws.length ≤ hi) (hc : c < k ∨ k + ws.length ≤ c) :
    readCell (fillCells m k ws) c = readCell m c := by
  rw [readCell_fillCells ws hm hlo hhi]
  split
  · rw [List.getD_eq_getElem?_getD, List.getElem?_eq_none (by omega)]
    rfl
  · rfl

theorem launchWith_ram (p : Params) (u : Supply) : (launchWith p u).ram = u.ramInit := by
  obtain ⟨pc, cart, h⟩ := launchWith_eq p u
  rw [h]

/-- Cartridge space after a launch: the supplied one, the bootstrap on top with the Disk System (R57). -/
theorem launchWith_cart (p : Params) (u : Supply) : (launchWith p u).cart =
    if p.diskPresent then fillCells u.cartInit 0xE000 u.bootstrap else u.cartInit := by
  unfold launchWith loadBootstrap powerOn
  cases p.diskPresent <;> rfl

/-- A launch ends in the handler at the reset vector (R38). -/
theorem launchWith_vector (p : Params) (u : Supply) :
    storedByte (launchWith p u) 0xFFFC = some (lowByte (launchWith p u).pc) ∧
    storedByte (launchWith p u) 0xFFFD = some (highByte (launchWith p u).pc) := by
  have hpc : (launchWith p u).pc = vectorAt Config.vecReset (launchWith p u) := rfl
  constructor
  · rw [hpc, vectorAt, lowByte_joinBytes, storedByte_cart _ (by decide)]
    rfl
  · rw [hpc, vectorAt, highByte_joinBytes, storedByte_cart _ (by decide)]
    rfl

/-- Cartridge cells out of the bootstrap's reach hold CART_INIT. -/
theorem launchWith_cartCell {p : Params} {u : Supply} (hu : u.wf = true) {c : Nat}
    (hc : p.diskPresent = false ∨ c < 0xE000 ∨ 0xE000 + u.bootstrap.length ≤ c) :
    readCell (launchWith p u).cart c = readCell u.cartInit c := by
  obtain ⟨-, hcart, -, hboot⟩ := Supply.wf_iff.1 hu
  rw [launchWith_cart]
  split
  · rename_i hd
    exact readCell_fillCells_outside hcart (by omega) (by omega) (hc.resolve_left (by simp [hd]))
  · rfl

/-- With the Disk System the bootstrap's bytes stand from `$E000` on (R57). -/
theorem launchWith_bootstrap {p : Params} {u : Supply} (hu : u.wf = true) (hd : p.diskPresent = true) {j : Nat}
    (hj : j < u.bootstrap.length) :
    storedByte (launchWith p u) (BitVec.ofNat 16 (0xE000 + j)) = u.bootstrap[j]? := by
  obtain ⟨-, hcart, -, hboot⟩ := Supply.wf_iff.1 hu
  have ha : (BitVec.ofNat 16 (0xE000 + j)).toNat = 0xE000 + j := by
    rw [BitVec.toNat_ofNat]
    omega
  rw [storedByte_cart _ (by omega), ha, launchWith_cart, if_pos hd, List.getElem?_eq_getElem hj,
    readCell_fillCells_inside hcart (by omega) (by omega) (List.getElem?_eq_getElem hj)]

/-- The supply of a cartridge: one load at `$8000`, a second at `$C000` for a program of exactly 16 KiB (R56). -/
theorem withCartridge_cartInit (u : Supply) (k : Cartridge) : (u.withCartridge k).cartInit =
    if k.program.length = 16384 then fillCells (fillCells u.cartInit 0x8000 k.program) 0xC000 k.program
    else fillCells u.cartInit 0x8000 k.program := rfl

section
variable {u : Supply} {k : Cartridge} (hu : u.wf = true) (hprog : k.program.length ≤ 0x8000)
include hu hprog

theorem withCartridge_first_wf : memoryWf 0x4200 0x10000 (fillCells u.cartInit 0x8000 k.program) = true := by
  obtain ⟨-, hcart, -, -⟩ := Supply.wf_iff.1 hu
  exact fillCells_wf k.program hcart (by omega) (by omega)

/-- A program byte stands at `$8000` on; the second load, of a 16 KiB program, lies above it. -/
theorem withCartridge_program {j : Nat} {w : Byte} (hj : k.program[j]? = some w)
    (hlow : k.program.length ≠ 16384 ∨ j < 0x4000) : readCell (u.withCartridge k).cartInit (0x8000 + j) = w := by
  obtain ⟨-, hcart, -, -⟩ := Supply.wf_iff.1 hu
  have hfirst := readCell_fillCells_inside hcart (k := 0x8000) (by omega) (by omega) hj
  rw [withCartridge_cartInit]
  split
  · rw [readCell_fillCells_outside (withCartridge_first_wf hu hprog) (by omega) (by omega) (by omega), hfirst]
  · exact hfirst

theorem withCartridge_secondCopy (hlen : k.program.length = 16384) {j : Nat} {w : Byte}
    (hj : k.program[j]? = some w) : readCell (u.withCartridge k).cartInit (0xC000 + j) = w := by
  rw [withCartridge_cartInit, if_pos hlen]
  exact readCell_fillCells_inside (withCartridge_first_wf hu hprog) (by omega) (by omega) hj

theorem withCartridge_otherCell {c : Nat}
    (hc : c < 0x8000 ∨ 0x8000 + (if k.program.length = 16384 then 0x8000 else k.program.length) ≤ c) :
    readCell (u.withCartridge k).cartInit c = readCell u.cartInit c := by
  obtain ⟨-, hcart, -, -⟩ := Supply.wf_iff.1 hu
  rw [withCartridge_cartInit]
  by_cases hlen : k.program.length = 16384
  · rw [if_pos hlen] at hc ⊢
    rw [readCell_fillCells_outside (withCartridge_first_wf hu hprog) (by omega) (by omega) (by omega),
      readCell_fillCells_outside hcart (by omega) (by omega) (by omega)]
  · rw [if_neg hlen] at hc ⊢
    exact readCell_fillCells_outside hcart (by omega) (by omega) hc

end

/-- Settles O15: each memory of the launched machine and of the loader's supply, cell by cell. -/
theorem launchPlacesTheSupply : Obligations.LaunchPlacesTheSupply := by
  refine ⟨fun p u hu => ⟨fun a ha => ?_, fun a ha hc => ?_, fun hd j hj => ?_, launchWith_vector p u⟩,
    fun u k hu hprog hpat => ⟨rfl, withCartridge_wf hu hprog hpat, fun j w => withCartridge_program hu hprog,
      fun hlen j w => withCartridge_secondCopy hu hprog hlen, fun c => withCartridge_otherCell hu hprog, ?_, ?_⟩,
    fun _ _ => rfl, fun _ _ => rfl⟩
  · rw [storedByte_ram _ ha, launchWith_ram]
  · rw [storedByte_cart _ ha, launchWith_cartCell hu hc]
  · exact launchWith_bootstrap hu hd hj
  · intro j w hj
    obtain ⟨-, -, hpat0, -⟩ := Supply.wf_iff.1 hu
    have := readCell_fillCells_inside hpat0 (k := 0) (by omega) (by omega) hj
    rwa [Nat.zero_add] at this
  · intro c hc
    obtain ⟨-, -, hpat0, -⟩ := Supply.wf_iff.1 hu
    exact readCell_fillCells_outside hpat0 (by omega) (by omega) (by omega)

end Sys2Proof.Machine
end

section
/-! Encoding (30_encoding.md): what every row of the opcode table encodes to and how its operand bytes are assembled, so
that decoding and encoding agree in both directions. -/

namespace Sys2Proof

-- Operand bytes

/-- The instruction a row makes of two operand bytes, of which it takes the first `operandLength` (R80, R83). -/
def Pattern.instr : Pattern → Byte → Byte → Instr
  | .f1 i, _, _ => i
  | .f2 make, b1, _ => make b1
  | .f3 make, b1, b2 => make (joinBytes b2 b1)

/-- The operand bytes of a row (R80: F1 none, F2 one, F3 two). -/
def Pattern.operandLength : Pattern → Nat
  | .f1 _ => 0
  | .f2 _ => 1
  | .f3 _ => 2

theorem Pattern.operandLength_le (p : Pattern) : p.operandLength ≤ 2 := by
  cases p <;> simp [operandLength]

/-- With its opcode and two bytes there, a row makes its instruction and leaves the bytes it does not take. -/
theorem decode_of_patternOf {op : Byte} {p : Pattern} (h : patternOf op = some p) (b1 b2 : Byte) (rest : List Byte) :
    decode (op :: b1 :: b2 :: rest) = .ok (p.instr b1 b2, (b1 :: b2 :: rest).drop p.operandLength) := by
  cases p <;> simp only [decode, h] <;> rfl

/-- Every answer of the decoder is made by the opcode's row of the operand bytes that follow it; a row that takes
fewer than two is given zeros for the others. -/
theorem exists_patternOf_of_decode {bs rest : List Byte} {i : Instr} (h : decode bs = .ok (i, rest)) :
    ∃ op p b1 b2, patternOf op = some p ∧ i = p.instr b1 b2 ∧ bs = op :: [b1, b2].take p.operandLength ++ rest := by
  unfold decode at h
  split at h
  · cases h
  · split at h
    · cases h
    · cases h
      exact ⟨_, _, 0, 0, ‹_›, rfl, rfl⟩
    · split at h
      · cases h
        exact ⟨_, _, _, 0, ‹_›, rfl, rfl⟩
      · cases h
    · split at h
      · cases h
        exact ⟨_, _, _, _, ‹_›, rfl, rfl⟩
      · cases h

/-- The operand form of each mode, made of the operand bytes (R83, R90 to R102). -/
def Mode.form (b1 b2 : Byte) : Mode → Form
  | .imp => .imp
  | .acc => .data .acc
  | .imm => .data (.imm b1)
  | .ind => .ind (joinBytes b2 b1)
  | .rel => .rel (signedByte b1)
  | .abs => .data (.mem (.abs (joinBytes b2 b1)))
  | .abx => .data (.mem (.abx (joinBytes b2 b1)))
  | .aby => .data (.mem (.aby (joinBytes b2 b1)))
  | .zp => .data (.mem (.zp b1))
  | .zpx => .data (.mem (.zpx b1))
  | .zpy => .data (.mem (.zpy b1))
  | .izy => .data (.mem (.izy b1))
  | .izx => .data (.mem (.izx b1))

/-- A table row with the operand that its mode makes of two bytes; a stub's operand bytes are not fetched (R260). -/
def Row.assemble (r : Row) (b1 b2 : Byte) : Row :=
  { r with form := if r.cls = .stub then .imp else r.mode.form b1 b2 }

theorem Row.assemble_form (r : Row) (b1 b2 : Byte) : ∃ m : Mode, (r.assemble b1 b2).form = m.form b1 b2 := by
  unfold assemble
  split
  · exact ⟨.imp, rfl⟩
  · exact ⟨r.mode, rfl⟩

-- The opcode table

/-- A row fits its opcode when its instructions encode to that opcode and their operand bytes, are well formed, and
are of one row of the table but for the operand (R80, R81, R83). -/
inductive Pattern.Fits (op : Byte) : Pattern → Prop
  | f1 {i : Instr} (henc : encode i = [op]) (hwf : i.wf = true)
      (hrow : ∀ b1 b2, i.row = i.row.assemble b1 b2) : Fits op (.f1 i)
  | rel {make : Int → Instr} (henc : ∀ off, encode (make off) = encodeByte op (relByte off))
      (hwf : ∀ off, (make off).wf = relInRange off)
      (hrow : ∀ b1 b2, (make (signedByte b1)).row = (make 0).row.assemble b1 b2) : Fits op (.rel make)
  | f2 {make : Byte → Instr} (henc : ∀ b, encode (make b) = encodeByte op b) (hwf : ∀ b, (make b).wf = true)
      (hrow : ∀ b1 b2, (make b1).row = (make 0).row.assemble b1 b2) : Fits op (.f2 make)
  | f3 {make : Word → Instr} (henc : ∀ a, encode (make a) = encodeWord op a) (hwf : ∀ a, (make a).wf = true)
      (hrow : ∀ b1 b2, (make (joinBytes b2 b1)).row = (make 0).row.assemble b1 b2) : Fits op (.f3 make)

/-- Each of the 256 rows of R106 is of one kind, for which `encode`, `Instr.wf` and `Instr.row` have the equations
that it asks for. -/
theorem opcodeTable_fits : ∀ x ∈ opcodeTable.zipIdx, x.1.Fits (BitVec.ofNat 8 x.2) := by
  simp only [opcodeTable, List.zipIdx_append, List.forall_mem_append, List.length_append]
  simp only [opcodeRow0, opcodeRow1, opcodeRow2, opcodeRow3, opcodeRow4, opcodeRow5, opcodeRow6, opcodeRow7,
    opcodeRow8, opcodeRow9, opcodeRowA, opcodeRowB, opcodeRowC, opcodeRowD, opcodeRowE, opcodeRowF,
    List.length_cons, List.length_nil, List.zipIdx_cons, List.zipIdx_nil, List.forall_mem_cons, List.not_mem_nil,
    false_imp_iff, implies_true, and_true]
  repeat' apply And.intro
  all_goals constructor <;> intros <;> rfl

theorem patternOf_fits {op : Byte} {p : Pattern} (h : patternOf op = some p) : p.Fits op := by
  have := opcodeTable_fits (p, op.toNat) (List.mk_mem_zipIdx_iff_getElem?.2 h)
  rwa [BitVec.ofNat_toNat, BitVec.setWidth_eq] at this

theorem Pattern.Fits.encode_instr {op : Byte} {p : Pattern} (h : p.Fits op) (b1 b2 : Byte) :
    encode (p.instr b1 b2) = op :: [b1, b2].take p.operandLength := by
  cases h with
  | f1 henc => exact henc
  | rel henc =>
    rw [Pattern.rel, instr, henc, relByte_signedByte]
    rfl
  | f2 henc => exact henc b1
  | f3 henc =>
    rw [instr, henc, encodeWord, lowByte_joinBytes, highByte_joinBytes]
    rfl

theorem Pattern.Fits.instr_wf {op : Byte} {p : Pattern} (h : p.Fits op) (b1 b2 : Byte) :
    (p.instr b1 b2).wf = true := by
  cases h with
  | f1 _ hwf => exact hwf
  | rel _ hwf => exact (hwf _).trans (relInRange_signedByte b1)
  | f2 _ hwf => exact hwf b1
  | f3 _ hwf => exact hwf _

theorem Pattern.Fits.exists_row {op : Byte} {p : Pattern} (h : p.Fits op) :
    ∃ r : Row, ∀ b1 b2, (p.instr b1 b2).row = r.assemble b1 b2 := by
  cases h with
  | f1 _ _ hrow => exact ⟨_, hrow⟩
  | rel _ _ hrow => exact ⟨_, hrow⟩
  | f2 _ _ hrow => exact ⟨_, hrow⟩
  | f3 _ _ hrow => exact ⟨_, hrow⟩

/-- Settles O2: the row of the opcode made the instruction, and that row fits its opcode. -/
theorem encodeOfDecodeIsBytes : Obligations.EncodeOfDecodeIsBytes := by
  intro bs rest i h
  obtain ⟨op, p, b1, b2, hp, rfl, rfl⟩ := exists_patternOf_of_decode h
  have hfit := patternOf_fits hp
  exact ⟨hfit.instr_wf b1 b2, by rw [hfit.encode_instr]⟩

/-- Settles O3: the row that fits the opcode is that of every instruction it makes. -/
theorem opcodeAloneSelectsRow : Obligations.OpcodeAloneSelectsRow := by
  intro op
  obtain ⟨p, hp⟩ := Option.isSome_iff_exists.1 (Machine.patternOf_isSome op)
  have hfit := patternOf_fits hp
  obtain ⟨r, hrow⟩ := hfit.exists_row
  refine ⟨r.mnemonic, r.mode, r.cycles, r.penalty, r.cls, p.operandLength, p.operandLength_le, fun b1 b2 rest =>
    ⟨p.instr b1 b2, decode_of_patternOf hp b1 b2 rest, by rw [hfit.encode_instr]; rfl, ?_⟩⟩
  rw [hrow]
  exact ⟨rfl, rfl, rfl, rfl, rfl⟩

/-- The operand form of an answer of the decoder is that of a mode, made of the bytes after the opcode. -/
theorem decoded_form {op b1 b2 : Byte} {rest rest' : List Byte} {i : Instr}
    (h : decode (op :: b1 :: b2 :: rest) = .ok (i, rest')) : ∃ m : Mode, i.row.form = m.form b1 b2 := by
  obtain ⟨p, hp⟩ := Option.isSome_iff_exists.1 (Machine.patternOf_isSome op)
  obtain ⟨r, hrow⟩ := (patternOf_fits hp).exists_row
  rw [decode_of_patternOf hp] at h
  cases h
  rw [hrow]
  exact r.assemble_form b1 b2

@[simp] theorem Machine.zeroPageAddr_toNat (z : Byte) : (zeroPageAddr z).toNat = z.toNat :=
  BitVec.toNat_setWidth_of_le (by decide)

/-- Settles O4: the operand form of an answer is its mode's, made of the bytes after the opcode. -/
theorem operandBytesAssembled : Obligations.OperandBytesAssembled := by
  refine ⟨fun op b1 b2 rest rest' i h => ?_, fun z _ => Machine.zeroPageAddr_toNat z⟩
  obtain ⟨m, hform⟩ := decoded_form h
  rw [hform]
  refine ⟨fun v hv => ?_, fun z hz => ?_, fun a ha => ?_, fun off hoff => ?_⟩
  · cases m <;> cases hv
    rfl
  · obtain hz | hz | hz | hz | hz := hz <;> cases m <;> cases hz <;> rfl
  · obtain ha | ha | ha | ha := ha <;> cases m <;> cases ha <;> exact joinBytes_toNat b2 b1
  · cases m <;> cases hoff
    exact signedByte_eq b1

/-- Settles O5: the words, and the census, by running the decoder. -/
theorem matrixWordsAndCensus : Obligations.MatrixWordsAndCensus := by
  refine ⟨⟨rfl, rfl, rfl, rfl, rfl, rfl, rfl, rfl, rfl, rfl, rfl, rfl, rfl, rfl, rfl, rfl, rfl, rfl, rfl⟩, ?_⟩
  decide +kernel

/-- Settles O1: by the kind of the instruction's row (R80). -/
theorem decodeOfEncodeIsInstruction : Obligations.DecodeOfEncodeIsInstruction := by
  intro i rest h
  cases i with
  | tax | tay | txa | tya | tsx | txs | pha | php | pla | plp | inx | iny | dex | dey | aslAcc | lsrAcc | rolAcc |
    rorAcc | rts | rti | brk | clc | sec | cli | sei | clv | cld | sed | nop | nopImp1A | nopImp3A | nopImp5A |
    nopImp7A | nopImpDA | nopImpFA | jam02 | jam12 | jam22 | jam32 | jam42 | jam52 | jam62 | jam72 | jam92 | jamB2 |
    jamD2 | jamF2 | aneImm | lxaImm | shaIzy | shaAby | shxAby | shyAbx | tasAby | lasAby =>
    exact decode_f1 rfl rest
  | ldaIzx | ldaZp | ldaImm | ldaIzy | ldaZpx | ldxImm | ldxZp | ldxZpy | ldyImm | ldyZp | ldyZpx | staIzx | staZp |
    staIzy | staZpx | stxZp | stxZpy | styZp | styZpx | adcIzx | adcZp | adcImm | adcIzy | adcZpx | sbcIzx | sbcZp |
    sbcImm | sbcIzy | sbcZpx | andIzx | andZp | andImm | andIzy | andZpx | oraIzx | oraZp | oraImm | oraIzy | oraZpx |
    eorIzx | eorZp | eorImm | eorIzy | eorZpx | bitZp | cmpIzx | cmpZp | cmpImm | cmpIzy | cmpZpx | cpxImm | cpxZp |
    cpyImm | cpyZp | incZp | incZpx | decZp | decZpx | aslZp | aslZpx | lsrZp | lsrZpx | rolZp | rolZpx | rorZp |
    rorZpx | sloIzx | sloZp | sloIzy | sloZpx | rlaIzx | rlaZp | rlaIzy | rlaZpx | sreIzx | sreZp | sreIzy | sreZpx |
    rraIzx | rraZp | rraIzy | rraZpx | dcpIzx | dcpZp | dcpIzy | dcpZpx | iscIzx | iscZp | iscIzy | iscZpx | saxIzx |
    saxZp | saxZpy | laxIzx | laxZp | laxIzy | laxZpy | ancImm0B | ancImm2B | alrImm | arrImm | sbxImm | sbcImmEB |
    nopZp04 | nopZpx14 | nopZpx34 | nopZp44 | nopZpx54 | nopZp64 | nopZpx74 | nopImm80 | nopImm82 | nopImm89 |
    nopImmC2 | nopZpxD4 | nopImmE2 | nopZpxF4 =>
    exact decode_f2 rfl _ rest
  | ldaAbs | ldaAby | ldaAbx | ldxAbs | ldxAby | ldyAbs | ldyAbx | staAbs | staAby | staAbx | stxAbs | styAbs | adcAbs
    | adcAby | adcAbx | sbcAbs | sbcAby | sbcAbx | andAbs | andAby | andAbx | oraAbs | oraAby | oraAbx | eorAbs |
    eorAby | eorAbx | bitAbs | cmpAbs | cmpAby | cmpAbx | cpxAbs | cpyAbs | incAbs | incAbx | decAbs | decAbx | aslAbs
    | aslAbx | lsrAbs | lsrAbx | rolAbs | rolAbx | rorAbs | rorAbx | jmpAbs | jmpInd | jsrAbs | sloAbs | sloAby |
    sloAbx | rlaAbs | rlaAby | rlaAbx | sreAbs | sreAby | sreAbx | rraAbs | rraAby | rraAbx | dcpAbs | dcpAby | dcpAbx
    | iscAbs | iscAby | iscAbx | saxAbs | laxAbs | laxAby | nopAbs0C | nopAbx1C | nopAbx3C | nopAbx5C | nopAbx7C |
    nopAbxDC | nopAbxFC =>
    exact decode_f3 rfl _ rest
  | bpl | bmi | bvc | bvs | bcc | bcs | bne | beq =>
    exact decode_rel rfl h rest

end Sys2Proof
end

section
/-! Effective addresses (30_encoding.md, R95 to R102), and where the conditional branches go (R94, R197). -/

namespace Sys2Proof.Machine

open Sys2Proof.Forms

-- Effective addresses

theorem zeroPageByte_stored (s : State) {z : Byte} {n : Nat} (h : n = z.toNat) :
    storedByte s (BitVec.ofNat 16 n) = some (zeroPageByte s z) := by
  have hz := z.isLt
  have hn : (BitVec.ofNat 16 n).toNat = z.toNat := by rw [h, BitVec.toNat_ofNat, Nat.mod_eq_of_lt (by omega)]
  rw [storedByte_ram s (by omega), hn, Nat.mod_eq_of_lt (by omega)]
  rfl

/-- A pointer's bytes are those stored at its two page-zero addresses, the second one modulo 256 (R101, R102). -/
theorem zeroPagePointer_stored (s : State) {z : Byte} {n : Nat} (h : n % 256 = z.toNat) : ∃ lo hi : Byte,
    storedByte s (BitVec.ofNat 16 (n % 256)) = some lo ∧ storedByte s (BitVec.ofNat 16 ((n + 1) % 256)) = some hi ∧
    (zeroPagePointer s z).toNat = hi.toNat * 256 + lo.toNat := by
  have hsucc : (n + 1) % 256 = (z + 1).toNat := by
    rw [BitVec.toNat_add, ← h]
    exact (Nat.mod_add_mod n 256 1).symm
  exact ⟨_, _, zeroPageByte_stored s h, zeroPageByte_stored s hsucc, joinBytes_toNat _ _⟩

theorem pagesDiffer_iff (a b : Word) : pagesDiffer a b = true ↔ a.toNat / 256 ≠ b.toNat / 256 := by
  rw [pagesDiffer, bne_iff_ne, Ne, ← BitVec.toNat_inj, highByte_toNat, highByte_toNat]

theorem indexed_addr_toNat (a : Word) (k : Byte) : (indexed a k).addr.toNat = (a.toNat + k.toNat) % 65536 := by
  have hk : (k.setWidth 16).toNat = k.toNat := zeroPageAddr_toNat k
  rw [indexed, BitVec.toNat_add, hk]

theorem indexed_crossed_iff (a : Word) (k : Byte) :
    (indexed a k).crossed = true ↔ (a.toNat + k.toNat) % 65536 / 256 ≠ a.toNat / 256 := by
  rw [← indexed_addr_toNat]
  exact pagesDiffer_iff _ _

/-- Settles O27: page-zero addresses and pointers by their values, indexed addresses by `indexed`. -/
theorem addressingModes : Obligations.AddressingModes := by
  intro s z a
  have hsum : ∀ k : Byte, (zeroPageAddr (z + k)).toNat = (z.toNat + k.toNat) % 256 := fun k => by
    rw [zeroPageAddr_toNat, BitVec.toNat_add]
  refine ⟨rfl, ⟨zeroPageAddr_toNat z, rfl⟩, ⟨hsum s.x, rfl⟩, ⟨hsum s.y, rfl⟩,
    ⟨indexed_addr_toNat a s.x, indexed_crossed_iff a s.x⟩, ⟨indexed_addr_toNat a s.y, indexed_crossed_iff a s.y⟩,
    ?_, ?_⟩
  · obtain ⟨lo, hi, hlo, hhi, hp⟩ := zeroPagePointer_stored s (z := z + s.x) (BitVec.toNat_add z s.x).symm
    exact ⟨lo, hi, hlo, hhi, hp, rfl⟩
  · have hz : z.toNat % 256 = z.toNat := Nat.mod_eq_of_lt z.isLt
    obtain ⟨lo, hi, hlo, hhi, hp⟩ := zeroPagePointer_stored s hz
    have hpage : (zeroPagePointer s z).toNat / 256 = hi.toNat := by
      have := lo.isLt
      omega
    rw [hz] at hlo
    refine ⟨lo, hi, hlo, hhi, ?_, ?_⟩
    · rw [← hp]
      exact indexed_addr_toNat _ s.y
    · rw [← hp, ← hpage]
      exact indexed_crossed_iff _ s.y

-- Branches

theorem pagesDiffer_toNat (a b : Word) : (pagesDiffer a b).toNat = if a.toNat / 256 = b.toNat / 256 then 0 else 1 := by
  have h := pagesDiffer_iff a b
  split
  · rw [eq_false_of_ne_true fun hd => h.1 hd ‹_›]
    rfl
  · rw [h.2 ‹_›]
    rfl

/-- A displacement is added modulo 2^16 (R94). -/
theorem add_displacement_toNat (pc : Word) (off : Int) :
    ((pc + BitVec.ofInt 16 off).toNat : Int) = (pc.toNat + off) % 65536 := by
  rw [BitVec.toNat_add, BitVec.toNat_ofInt]
  omega

theorem branchRule_of {op : Byte} {i : Int → Instr} {cond : State → Bool}
    (henc : ∀ off, encode (i off) = encodeByte op (relByte off))
    (hexec : ∀ off s, exec (i off) s = (branch (cond s) off s).outcome) : BranchRule op i cond := by
  intro off hlo hhi
  have hoff : relInRange off = true := by
    rw [relInRange, Bool.and_eq_true, decide_eq_true_eq, decide_eq_true_eq]
    exact ⟨hlo, hhi⟩
  refine ⟨⟨relByte off, henc off, signedByte_relByte hoff⟩, fun s => ⟨fun hc => ?_, fun hc => ?_⟩⟩
  · rw [hexec, branch_eq, hc]
    rfl
  · refine ⟨s.pc + BitVec.ofInt 16 off, add_displacement_toNat s.pc off, ?_⟩
    rw [hexec, branch_eq, hc, if_pos rfl, if_pos rfl, pagesDiffer_toNat, Nat.add_assoc s.cyc]
    rfl

/-- Settles O57: the eight meanings are `branch` of their conditions. -/
theorem branchesFollowTheirRules : Obligations.BranchesFollowTheirRules := by
  refine ⟨?_, ?_, ?_, ?_, ?_, ?_, ?_, ?_⟩ <;> exact branchRule_of (fun _ => rfl) fun _ _ => rfl

end Sys2Proof.Machine
end

section
/-! Loads, stores, transfers, stack instructions and no-ops (40_load_store_transfer.md, R120 to R144), and what every
instruction leaves of the CPU's own fields. -/

namespace Sys2Proof.Machine

open Sys2Proof.Forms

-- Operand lists

/-- The operands that an indexed address can carry over a page: the ones that the operand lists mark `*` (R103). -/
def mayCross (o : Operand) : Bool :=
  match o with
  | .mem (.abx _) | .mem (.aby _) | .mem (.izy _) => true
  | .mem (.zp _) | .mem (.zpx _) | .mem (.zpy _) | .mem (.abs _) | .mem (.izx _) | .imm _ | .acc => false

theorem readPenalty_of_not_mayCross {o : Operand} (h : mayCross o = false) (s : State) : readPenalty o s = 0 := by
  match o with
  | .mem (.abx _) | .mem (.aby _) | .mem (.izy _) => cases h
  | .mem (.zp _) | .mem (.zpx _) | .mem (.zpy _) | .mem (.abs _) | .mem (.izx _) | .imm _ | .acc => rfl

/-- An entry of a read instruction's operand list that the model runs as it is written there. -/
structure RunsRead (g : Byte → State → State) (f : ReadForm) : Prop where
  opcode : (encode f.instr).head? = some f.op
  run : ∀ s, exec f.instr s = (readClass f.operand f.cycles g s).outcome
  penalty : f.penalty = mayCross f.operand

theorem readRule_of_runs {forms : Byte → Word → List ReadForm} {g effect : Byte → State → State}
    (h : ∀ b a, ∀ f ∈ forms b a, RunsRead g f) (heff : ∀ w s, g w s = effect w s) : ReadRule forms effect := by
  obtain rfl : g = effect := funext fun w => funext (heff w)
  refine readRule_of fun b a f hf => ?_
  obtain ⟨hop, hrun, hpen⟩ := h b a f hf
  exact ⟨hop, hrun, fun hp => readPenalty_of_not_mayCross (hpen ▸ hp)⟩

/-- An entry of a store's operand list that the model runs as it is written there. -/
structure RunsStore (value : State → Byte) (f : MemForm) : Prop where
  opcode : (encode f.instr).head? = some f.op
  run : ∀ s, exec f.instr s = (storeClass f.dest f.cycles (value s) s).outcome

theorem storeRule_of_runs {forms : Byte → Word → List MemForm} {value : State → Byte}
    (h : ∀ b a, ∀ f ∈ forms b a, RunsStore value f) : StoreRule forms value :=
  storeRule_of fun b a f hf => ⟨(h b a f hf).opcode, (h b a f hf).run⟩

-- Loads

theorem ldaForms_run (b : Byte) (a : Word) : ∀ f ∈ ldaForms b a, RunsRead loadA f := by
  unfold ldaForms
  repeat refine List.forall_mem_cons.2 ⟨⟨rfl, fun _ => rfl, rfl⟩, ?_⟩
  exact nofun

theorem ldxForms_run (b : Byte) (a : Word) : ∀ f ∈ ldxForms b a, RunsRead loadX f := by
  unfold ldxForms
  repeat refine List.forall_mem_cons.2 ⟨⟨rfl, fun _ => rfl, rfl⟩, ?_⟩
  exact nofun

theorem ldyForms_run (b : Byte) (a : Word) : ∀ f ∈ ldyForms b a, RunsRead loadY f := by
  unfold ldyForms
  repeat refine List.forall_mem_cons.2 ⟨⟨rfl, fun _ => rfl, rfl⟩, ?_⟩
  exact nofun

theorem laxForms_run (b : Byte) (a : Word) : ∀ f ∈ laxForms b a, RunsRead loadAX f := by
  unfold laxForms
  repeat refine List.forall_mem_cons.2 ⟨⟨rfl, fun _ => rfl, rfl⟩, ?_⟩
  exact nofun

theorem setNZ_eq (w : Byte) (s : State) : setNZ w s = { s with n := w.getLsbD 7, z := decide (w = 0) } := by
  rw [setNZ, beq_eq_decide]

theorem loadA_eq (w : Byte) (s : State) :
    loadA w s = { s with a := w, n := w.getLsbD 7, z := decide (w = 0) } := setNZ_eq w _

theorem loadX_eq (w : Byte) (s : State) :
    loadX w s = { s with x := w, n := w.getLsbD 7, z := decide (w = 0) } := setNZ_eq w _

theorem loadY_eq (w : Byte) (s : State) :
    loadY w s = { s with y := w, n := w.getLsbD 7, z := decide (w = 0) } := setNZ_eq w _

theorem loadAX_eq (w : Byte) (s : State) :
    loadAX w s = { s with a := w, x := w, n := w.getLsbD 7, z := decide (w = 0) } := setNZ_eq w _

/-- Settles O47: the operand lists run `readClass` with the four load effects. -/
theorem loadsFollowTheirRules : Obligations.LoadsFollowTheirRules :=
  ⟨readRule_of_runs ldaForms_run loadA_eq, readRule_of_runs ldxForms_run loadX_eq,
    readRule_of_runs ldyForms_run loadY_eq, readRule_of_runs laxForms_run loadAX_eq⟩

-- Stores

theorem staForms_run (b : Byte) (a : Word) : ∀ f ∈ staForms b a, RunsStore (fun s => s.a) f := by
  unfold staForms
  repeat refine List.forall_mem_cons.2 ⟨⟨rfl, fun _ => rfl⟩, ?_⟩
  exact nofun

theorem stxForms_run (b : Byte) (a : Word) : ∀ f ∈ stxForms b a, RunsStore (fun s => s.x) f := by
  unfold stxForms
  repeat refine List.forall_mem_cons.2 ⟨⟨rfl, fun _ => rfl⟩, ?_⟩
  exact nofun

theorem styForms_run (b : Byte) (a : Word) : ∀ f ∈ styForms b a, RunsStore (fun s => s.y) f := by
  unfold styForms
  repeat refine List.forall_mem_cons.2 ⟨⟨rfl, fun _ => rfl⟩, ?_⟩
  exact nofun

theorem saxForms_run (b : Byte) (a : Word) : ∀ f ∈ saxForms b a, RunsStore (fun s => s.a &&& s.x) f := by
  unfold saxForms
  repeat refine List.forall_mem_cons.2 ⟨⟨rfl, fun _ => rfl⟩, ?_⟩
  exact nofun

/-- Settles O48: the operand lists run `storeClass` with the four stored values. -/
theorem storesFollowTheirRules : Obligations.StoresFollowTheirRules :=
  ⟨storeRule_of_runs staForms_run, storeRule_of_runs stxForms_run, storeRule_of_runs styForms_run,
    storeRule_of_runs saxForms_run⟩

-- Transfers, register counts, flag instructions and no-ops

theorem impliedRule_of {op : Byte} {i : Instr} {cycles : Nat} (g : State → State) {effect : State → State}
    (henc : encode i = [op]) (hrun : ∀ s, exec i s = (implied cycles g s).outcome) (heff : ∀ s, g s = effect s) :
    ImpliedRule op i cycles effect := by
  obtain rfl : g = effect := funext heff
  exact ⟨henc, hrun⟩

theorem inx_eq (s : State) : inx s = loadX (BitVec.ofNat 8 (s.x.toNat + 1)) s := by
  rw [inx, inc_eq_ofNat]

theorem iny_eq (s : State) : iny s = loadY (BitVec.ofNat 8 (s.y.toNat + 1)) s := by
  rw [iny, inc_eq_ofNat]

theorem dex_eq (s : State) : dex s = loadX (BitVec.ofNat 8 (s.x.toNat + 255)) s := by
  rw [dex, dec_eq_ofNat]

theorem dey_eq (s : State) : dey s = loadY (BitVec.ofNat 8 (s.y.toNat + 255)) s := by
  rw [dey, dec_eq_ofNat]

theorem nopForms_run (b : Byte) (a : Word) : ∀ f ∈ nopForms b a, RunsRead nopRead f := by
  unfold nopForms
  repeat refine List.forall_mem_cons.2 ⟨⟨rfl, fun _ => rfl, rfl⟩, ?_⟩
  exact nofun

/-- Settles O54: one-byte instructions run `implied` with their effects, no-ops with an operand `readClass` with
none. -/
theorem oneByteAndNoOpInstructionsFollowTheirRules : Obligations.OneByteAndNoOpInstructionsFollowTheirRules := by
  refine ⟨⟨
    impliedRule_of tax rfl (fun _ => rfl) fun s => loadX_eq s.a s,
    impliedRule_of tay rfl (fun _ => rfl) fun s => loadY_eq s.a s,
    impliedRule_of txa rfl (fun _ => rfl) fun s => loadA_eq s.x s,
    impliedRule_of tya rfl (fun _ => rfl) fun s => loadA_eq s.y s,
    impliedRule_of tsx rfl (fun _ => rfl) fun s => loadX_eq s.sp s,
    impliedRule_of txs rfl (fun _ => rfl) fun _ => rfl,
    impliedRule_of inx rfl (fun _ => rfl) fun s => (inx_eq s).trans (loadX_eq _ s),
    impliedRule_of iny rfl (fun _ => rfl) fun s => (iny_eq s).trans (loadY_eq _ s),
    impliedRule_of dex rfl (fun _ => rfl) fun s => (dex_eq s).trans (loadX_eq _ s),
    impliedRule_of dey rfl (fun _ => rfl) fun s => (dey_eq s).trans (loadY_eq _ s),
    ?_, ?_, ?_, ?_, ?_, ?_, ?_, ?_, ?_, ?_, ?_, ?_, ?_, ?_⟩, readRule_of_runs nopForms_run fun _ _ => rfl⟩
  -- Flag instructions and no-ops: the effect of the rule is the model's own.
  all_goals exact ⟨rfl, fun _ => rfl⟩

-- Stack instructions

theorem spend_pushed {ws : List Byte} {s t : State} (k : Nat) (h : Pushed ws s t) : Pushed ws s (spend k t) :=
  h.congr rfl rfl rfl

/-- One byte pushed stands in the stack page (R11). -/
theorem push_pushed {s : State} (w : Byte) (h : memoryWf 0 0x800 s.ram = true) : Pushed [w] s (push w s) :=
  pushAll_pushed [w] h (by simp)

theorem pullByte_stored (s : State) : storedByte s (stackAddr (s.sp + 1)) = some (pullByte s) :=
  storedByte_stackAddr s (s.sp + 1)

/-- Settles O55: a push is `push_pushed`, a pull reads the byte of `pullByte_stored`. -/
theorem stackInstructionsFollowTheirRules : Obligations.StackInstructionsFollowTheirRules := by
  refine ⟨rfl, rfl, rfl, rfl, fun s hram => ?pha, fun s hram => ?php, fun s => ?pla, fun s => ?plp⟩
  case pha => exact ⟨_, rfl, spend_pushed 3 (push_pushed s.a hram), rfl⟩
  case php => exact ⟨_, pByte true s, rfl, pByte_statusBits true s, spend_pushed 3 (push_pushed _ hram), rfl⟩
  case pla =>
    refine ⟨pullByte s, pullByte_stored s, ?_⟩
    have hrun : exec .pla s = .next (spend 4 (loadA (pullByte s) (pulled s))) := rfl
    rw [hrun, loadA_eq]
    rfl
  case plp => exact ⟨pullByte s, pullByte_stored s, rfl⟩

-- The frame on the CPU

/-- Of the CPU's registers and flags only those of `L` differ, of the fields that no instruction touches none (`pc`
and the counter apart). -/
def CpuFrame (L : List Reg) (s t : State) : Prop := KeepRegs L s t ∧ Outer s t

theorem CpuFrame.trans {L : List Reg} {s t u : State} (h : CpuFrame L s t) (h' : CpuFrame L t u) : CpuFrame L s u :=
  ⟨h.1.trans h'.1, h.2.trans h'.2⟩

theorem ReadEffect.cpuFrame {L : List Reg} {s t : State} (h : ReadEffect s t) : CpuFrame L s t :=
  ⟨h.keeps.mono, h.outer⟩

theorem WriteEffect.cpuFrame {L : List Reg} {s t : State} (h : WriteEffect s t) : CpuFrame L s t :=
  ⟨h.keeps.mono, h.outer⟩

theorem CpuFrame.spend {L : List Reg} {s t : State} (h : CpuFrame L s t) (k : Nat) : CpuFrame L s (spend k t) :=
  h.trans ⟨(spend_keeps k t).mono, (spend_regsOnly k t).outer⟩

theorem withPc_cpuFrame {L : List Reg} (s : State) (a : Word) : CpuFrame L s { s with pc := a } := by
  have hregs : RegsOnly s { s with pc := a } := rfl
  exact ⟨fun r _ => by cases r <;> rfl, hregs.outer⟩

/-- Settles O58: shape by shape, bus accesses leave every register and flag, and the effect on them keeps to
`mayWrite`. -/
theorem registersAndFlagsFrame : Obligations.RegistersAndFlagsFrame := by
  intro i s t h
  change CpuFrame (mayWrite i.row.mnemonic i.row.mode) s t
  cases exec_shape i with
  | read o base g stores data regs same keeps lo hi run =>
    rw [run] at h
    obtain ⟨w, u, hu, rfl⟩ := readClass_inv h
    exact ((loadOperand_effect hu).cpuFrame.trans ⟨keeps w u, (regs w u).outer⟩).spend _
  | store m base v stores data lo hi run =>
    rw [run] at h
    obtain ⟨u, hu, rfl⟩ := storeClass_inv h
    exact (busWrite_effect hu).cpuFrame.spend _
  | rmw m base f g stores data regs same keeps lo hi run =>
    rw [run] at h
    obtain ⟨w, u, v, hu, hv, rfl⟩ := rmwClass_inv h
    exact (((busRead_effect hu).cpuFrame.trans (busWrite_effect hv).cpuFrame).trans
      ⟨keeps _ v, (regs _ v).outer⟩).spend _
  | regs cost g stores data regs same keeps lo hi run =>
    rw [run] at h
    cases h
    exact CpuFrame.spend ⟨keeps s, (regs s).outer⟩ _
  | push base bytes g stores data few regs same keeps lo hi run =>
    rw [run] at h
    cases h
    exact CpuFrame.spend ⟨keeps s, (pushAll_outer _ _).trans (regs _).outer⟩ _
  | jump p stores data run =>
    rw [run] at h
    obtain ⟨lo, u, hi, v, hu, hv, rfl⟩ := jump_inv h
    exact (((busRead_effect hu).cpuFrame.trans (busRead_effect hv).cpuFrame).trans
      (withPc_cpuFrame v _)).spend _
  | stop op mem run =>
    rw [run] at h
    cases h

end Sys2Proof.Machine
end

section
/-! Arithmetic and logic (41_arithmetic_logic.md, R150 to R174): the sums and differences as integers, and the operand
lists of `ADC` to `ROR`. -/

namespace Sys2Proof.Machine

open Sys2Proof.Forms

-- Sums and differences

/-- The overflow bit of a sum says that the signed sum leaves -128..127 (R170). -/
theorem add8_overflow_iff (a m : Byte) (c : Bool) :
    (add8 a m c).overflow = true ↔ a.toInt + m.toInt + c.toNat < -128 ∨ 127 < a.toInt + m.toInt + c.toNat := by
  have ha := a.isLt
  have hm := m.isLt
  have hc := c.toNat_le
  rw [add8_overflow_bits, BitVec.toInt_eq_toNat_cond a, BitVec.toInt_eq_toNat_cond m]
  simp only [Bool.and_eq_true, bne_iff_ne, ne_eq, decide_eq_decide]
  split <;> split <;> omega

/-- The complement of the subtrahend (R171). -/
theorem complement_toNat (m : Byte) : (m ^^^ 0xFF).toNat = 255 - m.toNat := by
  have hnot : m ^^^ 0xFF = ~~~m := BitVec.xor_allOnes
  rw [hnot, BitVec.toNat_not]

theorem complement_toInt (m : Byte) : (m ^^^ 0xFF).toInt = -1 - m.toInt := by
  have hm := m.isLt
  rw [BitVec.toInt_eq_toNat_cond, BitVec.toInt_eq_toNat_cond, complement_toNat]
  split <;> split <;> omega

/-- The difference as an integer and its carry: the result is the difference mod 256, no borrow keeps C (R171). -/
theorem sub8_difference (a m : Byte) (c : Bool) :
    ((sub8 a m c).r.toNat : Int) = ((a.toNat : Int) - m.toNat - (1 - c.toNat)) % 256 ∧
    ((sub8 a m c).carry = true ↔ 0 ≤ (a.toNat : Int) - m.toNat - (1 - c.toNat)) := by
  obtain ⟨hr, hcarry⟩ := add8_sum a (m ^^^ 0xFF) c
  have hm := m.isLt
  rw [complement_toNat] at hr hcarry
  rw [sub8, hr, hcarry, BitVec.toNat_ofNat]
  omega

/-- The overflow bit of a difference says that the signed difference leaves -128..127 (R171). -/
theorem sub8_overflow_iff (a m : Byte) (c : Bool) :
    (sub8 a m c).overflow = true ↔
      a.toInt - m.toInt - (1 - c.toNat) < -128 ∨ 127 < a.toInt - m.toInt - (1 - c.toNat) := by
  rw [sub8, add8_overflow_iff, complement_toInt]
  omega

theorem setSum_eq (q : Sum) (s : State) : setSum q s =
    { s with a := q.r, c := q.carry, v := q.overflow, n := q.r.getLsbD 7, z := decide (q.r = 0) } := setNZ_eq q.r _

theorem adcForms_run (b : Byte) (a : Word) : ∀ f ∈ adcForms b a, RunsRead adc f := by
  unfold adcForms
  repeat refine List.forall_mem_cons.2 ⟨⟨rfl, fun _ => rfl, rfl⟩, ?_⟩
  exact List.forall_mem_nil _

theorem sbcForms_run (b : Byte) (a : Word) : ∀ f ∈ sbcForms b a, RunsRead sbc f := by
  unfold sbcForms
  repeat refine List.forall_mem_cons.2 ⟨⟨rfl, fun _ => rfl, rfl⟩, ?_⟩
  exact List.forall_mem_nil _

/-- Settles O49: the sum's law, the difference's law by way of the complement, and the two operand lists. -/
theorem addAndSubtractFollowTheirRules : Obligations.AddAndSubtractFollowTheirRules := by
  refine ⟨fun a m c => ?sum, fun a m c => ?difference,
    readRule_of_runs adcForms_run fun m s => setSum_eq (add8 s.a m s.c) s,
    readRule_of_runs sbcForms_run fun m s => setSum_eq (sub8 s.a m s.c) s⟩
  case sum =>
    obtain ⟨hr, hcarry⟩ := add8_sum a m c
    exact ⟨hr, hcarry, add8_overflow_iff a m c⟩
  case difference =>
    obtain ⟨hr, hcarry⟩ := sub8_difference a m c
    exact ⟨hr, hcarry, sub8_overflow_iff a m c⟩

-- Logic and comparisons

theorem bitTest_eq (m : Byte) (s : State) : bitTest m s =
    { s with z := decide (s.a &&& m = 0), n := m.getLsbD 7, v := m.getLsbD 6 } := by
  rw [bitTest, beq_eq_decide]

theorem compare_eq (r m : Byte) (s : State) : compare r m s =
    { s with c := decide (r.toNat ≥ m.toNat), z := decide (r = m),
             n := (BitVec.ofNat 8 (r.toNat + 256 - m.toNat)).getLsbD 7 } := by
  rw [compare, beq_eq_decide, sub_eq_ofNat]

theorem andForms_run (b : Byte) (a : Word) : ∀ f ∈ andForms b a, RunsRead andA f := by
  unfold andForms
  repeat refine List.forall_mem_cons.2 ⟨⟨rfl, fun _ => rfl, rfl⟩, ?_⟩
  exact List.forall_mem_nil _

theorem oraForms_run (b : Byte) (a : Word) : ∀ f ∈ oraForms b a, RunsRead oraA f := by
  unfold oraForms
  repeat refine List.forall_mem_cons.2 ⟨⟨rfl, fun _ => rfl, rfl⟩, ?_⟩
  exact List.forall_mem_nil _

theorem eorForms_run (b : Byte) (a : Word) : ∀ f ∈ eorForms b a, RunsRead eorA f := by
  unfold eorForms
  repeat refine List.forall_mem_cons.2 ⟨⟨rfl, fun _ => rfl, rfl⟩, ?_⟩
  exact List.forall_mem_nil _

theorem bitForms_run (b : Byte) (a : Word) : ∀ f ∈ bitForms b a, RunsRead bitTest f := by
  unfold bitForms
  repeat refine List.forall_mem_cons.2 ⟨⟨rfl, fun _ => rfl, rfl⟩, ?_⟩
  exact List.forall_mem_nil _

theorem cmpForms_run (b : Byte) (a : Word) : ∀ f ∈ cmpForms b a, RunsRead cmpA f := by
  unfold cmpForms
  repeat refine List.forall_mem_cons.2 ⟨⟨rfl, fun _ => rfl, rfl⟩, ?_⟩
  exact List.forall_mem_nil _

theorem cpxForms_run (b : Byte) (a : Word) : ∀ f ∈ cpxForms b a, RunsRead cmpX f := by
  unfold cpxForms
  repeat refine List.forall_mem_cons.2 ⟨⟨rfl, fun _ => rfl, rfl⟩, ?_⟩
  exact List.forall_mem_nil _

theorem cpyForms_run (b : Byte) (a : Word) : ∀ f ∈ cpyForms b a, RunsRead cmpY f := by
  unfold cpyForms
  repeat refine List.forall_mem_cons.2 ⟨⟨rfl, fun _ => rfl, rfl⟩, ?_⟩
  exact List.forall_mem_nil _

/-- Settles O50: the logic forms load their result into A, the compares run `compare` on their register. -/
theorem logicAndCompareFollowTheirRules : Obligations.LogicAndCompareFollowTheirRules :=
  ⟨readRule_of_runs andForms_run fun m s => loadA_eq (s.a &&& m) s,
    readRule_of_runs oraForms_run fun m s => loadA_eq (s.a ||| m) s,
    readRule_of_runs eorForms_run fun m s => loadA_eq (s.a ^^^ m) s,
    readRule_of_runs bitForms_run bitTest_eq,
    readRule_of_runs cmpForms_run fun m s => compare_eq s.a m s,
    readRule_of_runs cpxForms_run fun m s => compare_eq s.x m s,
    readRule_of_runs cpyForms_run fun m s => compare_eq s.y m s⟩

-- Counts and shifts

/-- An entry of a read-modify-write instruction's operand list that the model runs as it is written there. -/
structure RunsRmw (f : Byte → Bool → Shifted) (g : Shifted → State → State) (m : MemForm) : Prop where
  opcode : (encode m.instr).head? = some m.op
  run : ∀ s, exec m.instr s = (rmwClass m.dest m.cycles f g s).outcome

theorem rmwRule_of_runs {forms : Byte → Word → List MemForm} {f newByte : Byte → Bool → Shifted}
    {g effect : Shifted → State → State} (h : ∀ b a, ∀ m ∈ forms b a, RunsRmw f g m)
    (hbyte : ∀ w c, f w c = newByte w c) (heff : ∀ q s, g q s = effect q s) : RmwRule forms newByte effect := by
  obtain rfl : f = newByte := funext fun w => funext (hbyte w)
  obtain rfl : g = effect := funext fun q => funext (heff q)
  exact rmwRule_of fun b a m hm => ⟨(h b a m hm).opcode, (h b a m hm).run⟩

/-- The accumulator form of a shift: the new byte goes to A, with no access. -/
theorem accRule_of {op : Byte} {i : Instr} {cycles : Nat} (f : Byte → Bool → Shifted)
    {newByte : Byte → Bool → Shifted} (g : Shifted → State → State) {effect : Shifted → State → State} (henc : encode i = [op])
    (hrun : ∀ s, exec i s = (accClass cycles f g s).outcome) (hbyte : ∀ w c, f w c = newByte w c)
    (heff : ∀ q s, g q s = effect q s) :
    ImpliedRule op i cycles fun s => effect (newByte s.a s.c) { s with a := (newByte s.a s.c).r } := by
  obtain rfl : f = newByte := funext fun w => funext (hbyte w)
  obtain rfl : g = effect := funext fun q => funext (heff q)
  exact ⟨henc, hrun⟩

theorem keepNZ_eq (q : Shifted) (s : State) :
    keepNZ q s = { s with n := q.r.getLsbD 7, z := decide (q.r = 0) } := setNZ_eq q.r s

theorem shiftNZC_eq (q : Shifted) (s : State) :
    shiftNZC q s = { s with c := q.carry, n := q.r.getLsbD 7, z := decide (q.r = 0) } := setNZ_eq q.r _

theorem incForms_run (b : Byte) (a : Word) : ∀ m ∈ incForms b a, RunsRmw inc8 keepNZ m := by
  unfold incForms
  repeat refine List.forall_mem_cons.2 ⟨⟨rfl, fun _ => rfl⟩, ?_⟩
  exact List.forall_mem_nil _

theorem decForms_run (b : Byte) (a : Word) : ∀ m ∈ decForms b a, RunsRmw dec8 keepNZ m := by
  unfold decForms
  repeat refine List.forall_mem_cons.2 ⟨⟨rfl, fun _ => rfl⟩, ?_⟩
  exact List.forall_mem_nil _

theorem aslForms_run (b : Byte) (a : Word) : ∀ m ∈ aslForms b a, RunsRmw asl8 shiftNZC m := by
  unfold aslForms
  repeat refine List.forall_mem_cons.2 ⟨⟨rfl, fun _ => rfl⟩, ?_⟩
  exact List.forall_mem_nil _

theorem lsrForms_run (b : Byte) (a : Word) : ∀ m ∈ lsrForms b a, RunsRmw lsr8 shiftNZC m := by
  unfold lsrForms
  repeat refine List.forall_mem_cons.2 ⟨⟨rfl, fun _ => rfl⟩, ?_⟩
  exact List.forall_mem_nil _

theorem rolForms_run (b : Byte) (a : Word) : ∀ m ∈ rolForms b a, RunsRmw rol8 shiftNZC m := by
  unfold rolForms
  repeat refine List.forall_mem_cons.2 ⟨⟨rfl, fun _ => rfl⟩, ?_⟩
  exact List.forall_mem_nil _

theorem rorForms_run (b : Byte) (a : Word) : ∀ m ∈ rorForms b a, RunsRmw ror8 shiftNZC m := by
  unfold rorForms
  repeat refine List.forall_mem_cons.2 ⟨⟨rfl, fun _ => rfl⟩, ?_⟩
  exact List.forall_mem_nil _

/-- Settles O51: the operand lists run `rmwClass`, the accumulator forms `accClass`, with the counts and shifts that
the `_eq` lemmas give as arithmetic. -/
theorem memoryShiftsAndCountsFollowTheirRules : Obligations.MemoryShiftsAndCountsFollowTheirRules :=
  ⟨rmwRule_of_runs incForms_run inc8_eq keepNZ_eq, rmwRule_of_runs decForms_run dec8_eq keepNZ_eq,
    rmwRule_of_runs aslForms_run asl8_eq shiftNZC_eq, rmwRule_of_runs lsrForms_run lsr8_eq shiftNZC_eq,
    rmwRule_of_runs rolForms_run rol8_eq shiftNZC_eq, rmwRule_of_runs rorForms_run ror8_eq shiftNZC_eq,
    accRule_of asl8 shiftNZC rfl (fun _ => rfl) asl8_eq shiftNZC_eq,
    accRule_of lsr8 shiftNZC rfl (fun _ => rfl) lsr8_eq shiftNZC_eq,
    accRule_of rol8 shiftNZC rfl (fun _ => rfl) rol8_eq shiftNZC_eq,
    accRule_of ror8 shiftNZC rfl (fun _ => rfl) ror8_eq shiftNZC_eq⟩

end Sys2Proof.Machine
end

section
/-! Jumps, calls, returns and the software interrupt (42_control_flow_flags.md, R93 and R191 to R196). -/

namespace Sys2Proof.Machine

open Sys2Proof.Forms

-- Returns, and BRK's entry

/-- The byte that a pull from `t` returns stands in the memory of every state with that RAM (R11). -/
theorem pullByte_stored_of_ram {s t : State} {p : Byte} (hram : t.ram = s.ram) (hsp : t.sp + 1 = p) :
    storedByte s (stackAddr p) = some (pullByte t) := by
  rw [storedByte_stackAddr, ← hram, ← hsp]
  rfl

theorem pulled_twice_sp (s : State) : (pulled (pulled s)).sp = s.sp + 2 := BitVec.add_assoc s.sp 1 1

theorem pulled_three_times_sp (s : State) : (pulled (pulled (pulled s))).sp = s.sp + 3 := by
  rw [pulled_sp, pulled_twice_sp, BitVec.add_assoc]
  rfl

theorem rts_eq (s : State) : rts s =
    { s with pc := joinBytes (pullByte (pulled s)) (pullByte s) + 1, sp := s.sp + 2 } := by
  rw [← pulled_twice_sp]
  rfl

theorem returnFromInterrupt_eq (s : State) : returnFromInterrupt s =
    { setP (pullByte s) s with
      pc := joinBytes (pullByte (pulled (pulled s))) (pullByte (pulled s)), sp := s.sp + 3 } := by
  rw [← pulled_three_times_sp]
  rfl

/-- Settles O19: the three bytes pulled are the stored ones, and `returnFromInterrupt_eq` says where they go. -/
theorem rtiRestoresFlagsAndPc : Obligations.RtiRestoresFlagsAndPc := by
  refine ⟨rfl, fun s => ⟨pullByte s, pullByte (pulled s), pullByte (pulled (pulled s)), pullByte_stored s,
    pullByte_stored_of_ram rfl (pulled_twice_sp s), pullByte_stored_of_ram rfl (pulled_three_times_sp s), ?_⟩⟩
  have hrun : exec .rti s = .next (spend 6 (returnFromInterrupt s)) := rfl
  rw [hrun, returnFromInterrupt_eq]
  rfl

/-- Settles O18: BRK is interrupt entry with the break bit and the IRQ vector, then its cost. -/
theorem brkTakesTheSharedVector : Obligations.BrkTakesTheSharedVector := by
  refine ⟨rfl, fun s hram => ⟨spend 7 (brkEntry s), rfl, ?_, rfl, rfl⟩⟩
  exact enterInterrupt_entersHandler (by decide) (by decide) hram rfl

-- The indirect jump

/-- The second pointer byte's address: with the wrap, the next byte of the same page (R93). -/
theorem pointerHigh_eq (cfg : Params) (p : Word) : pointerHigh cfg p =
    if cfg.jmpIndPageWrap then BitVec.ofNat 16 (p.toNat / 256 * 256 + (p.toNat + 1) % 256) else p + 1 := by
  have hjoin : joinBytes (highByte p) (lowByte p + 1) =
      BitVec.ofNat 16 (p.toNat / 256 * 256 + (p.toNat + 1) % 256) := by
    have hp := p.isLt
    apply BitVec.eq_of_toNat_eq
    rw [joinBytes_toNat, BitVec.toNat_add, highByte_toNat, lowByte_toNat, BitVec.toNat_ofNat,
      show (1 : Byte).toNat = 1 from rfl]
    omega
  rw [pointerHigh, hjoin]

theorem pointerOk_cases {p : Word} {s : State} (h : pointerOk p s = true) :
    ∃ lo t hi u, busRead p s = .ok lo t ∧ busRead (pointerHigh s.cfg p) t = .ok hi u := by
  unfold pointerOk at h
  rw [Bool.and_eq_true] at h
  obtain ⟨hfirst, hsecond⟩ := h
  obtain ⟨lo, t, ht⟩ := busRead_ok hfirst
  rw [ht] at hsecond
  obtain ⟨hi, u, hu⟩ := busRead_ok hsecond
  exact ⟨lo, t, hi, u, ht, hu⟩

theorem jumpIndirect_of_ok {p : Word} {base : Nat} {s t u : State} {lo hi : Byte} (hlo : busRead p s = .ok lo t)
    (hhi : busRead (pointerHigh s.cfg p) t = .ok hi u) :
    jumpIndirect p base s = .ok () (spend base { u with pc := joinBytes hi lo }) := by
  have hcfg : t.cfg = s.cfg := by rw [busRead_effect hlo]
  simp [jumpIndirect, hlo, hcfg, hhi]

/-- An indirect jump stops where one of its two reads raises a condition. -/
theorem jumpIndirect_of_not_ok {p : Word} {base : Nat} {s : State} (h : pointerOk p s = false) :
    ∃ c t, jumpIndirect p base s = .stop c t := by
  unfold pointerOk at h
  cases hr : readOk s p with
  | false => exact ⟨_, s, by rw [jumpIndirect, busRead_stop hr, andThen_stop]⟩
  | true =>
    obtain ⟨lo, t, ht⟩ := busRead_ok hr
    have hcfg : t.cfg = s.cfg := by rw [busRead_effect ht]
    rw [hr, ht, Bool.true_and] at h
    exact ⟨_, t, by rw [jumpIndirect, ht, andThen_ok, hcfg, busRead_stop h, andThen_stop]⟩

/-- Settles O56: the indirect jump by its two reads, `JSR` by what two pushes leave, `RTS` by `rts_eq`. -/
theorem jumpsCallsAndReturns : Obligations.JumpsCallsAndReturns := by
  refine ⟨fun _ => ⟨rfl, rfl, rfl, rfl⟩, fun _ _ => rfl, fun p s => ?jmpInd, fun a s hram => ?jsr, fun s => ?rts⟩
  case jmpInd =>
    have hrun : exec (.jmpInd p) s = (jumpIndirect p 5 s).outcome := rfl
    rw [hrun, ← pointerHigh_eq]
    refine ⟨fun hok => ?_, fun hstop => ?_⟩
    · obtain ⟨lo, t, hi, u, hlo, hhi⟩ := pointerOk_cases hok
      exact ⟨lo, t, hi, u, hlo, hhi, by rw [jumpIndirect_of_ok hlo hhi]; rfl⟩
    · obtain ⟨c, t, ht⟩ := jumpIndirect_of_not_ok (base := 5) hstop
      exact ⟨c, t, by rw [ht, outcome_stop]⟩
  case jsr =>
    have hpushed := pushAll_pushed [highByte (s.pc - 1), lowByte (s.pc - 1)] hram (by simp)
    exact ⟨_, rfl, hpushed.congr rfl rfl rfl, rfl⟩
  case rts =>
    refine ⟨pullByte s, pullByte (pulled s), pullByte_stored s,
      pullByte_stored_of_ram rfl (pulled_twice_sp s), ?_⟩
    have hrun : exec .rts s = .next (spend 6 (rts s)) := rfl
    rw [hrun, rts_eq]
    rfl

end Sys2Proof.Machine
end

section
/-! Undocumented instructions (43_undocumented.md): the combined operations (R230 to R238), the immediate combinations
(R239, R240, R242, R251) and the stub opcodes (R260 to R268). -/

namespace Sys2Proof.Machine

open Sys2Proof.Forms

-- Stub opcodes

/-- An opcode that the decoder takes for a whole instruction, which offers it to the trap hook (R108, R260). -/
structure RunsStub (p : Byte × Instr) : Prop where
  oneByte : patternOf p.1 = some (.f1 p.2)
  run : ∀ s, exec p.2 s = stub p.1 s

/-- The default hook declines, so a stub stops at once, with nothing changed but the latch (R260, R433). -/
theorem stub_of_none {s : State} (op : Byte) (h : s.fatal = none) : stub op s =
    .fault (.fatal (.noOpcodeHandler op (s.pc - 1)) { s with fatal := some (.noOpcodeHandler op (s.pc - 1)) }) := by
  rw [← latch_of_none _ h]
  rfl

/-- Settles O8: each opcode of the list runs `stub`, which `stub_of_none` describes. -/
theorem stubOpcodesStop : Obligations.StubOpcodesStop := by
  intro p hp
  have hstub : RunsStub p := by
    revert p
    repeat refine List.forall_mem_cons.2 ⟨⟨rfl, fun _ => rfl⟩, ?_⟩
    exact List.forall_mem_nil _
  exact ⟨decode_f1 hstub.oneByte, fun s hs => (hstub.run s).trans (stub_of_none p.1 hs)⟩

-- Combined operations

theorem sloForms_run (b : Byte) (a : Word) : ∀ m ∈ sloForms b a, RunsRmw asl8 sloA m := by
  unfold sloForms
  repeat refine List.forall_mem_cons.2 ⟨⟨rfl, fun _ => rfl⟩, ?_⟩
  exact List.forall_mem_nil _

theorem rlaForms_run (b : Byte) (a : Word) : ∀ m ∈ rlaForms b a, RunsRmw rol8 rlaA m := by
  unfold rlaForms
  repeat refine List.forall_mem_cons.2 ⟨⟨rfl, fun _ => rfl⟩, ?_⟩
  exact List.forall_mem_nil _

theorem sreForms_run (b : Byte) (a : Word) : ∀ m ∈ sreForms b a, RunsRmw lsr8 sreA m := by
  unfold sreForms
  repeat refine List.forall_mem_cons.2 ⟨⟨rfl, fun _ => rfl⟩, ?_⟩
  exact List.forall_mem_nil _

theorem rraForms_run (b : Byte) (a : Word) : ∀ m ∈ rraForms b a, RunsRmw ror8 rraA m := by
  unfold rraForms
  repeat refine List.forall_mem_cons.2 ⟨⟨rfl, fun _ => rfl⟩, ?_⟩
  exact List.forall_mem_nil _

theorem dcpForms_run (b : Byte) (a : Word) : ∀ m ∈ dcpForms b a, RunsRmw dec8 dcpA m := by
  unfold dcpForms
  repeat refine List.forall_mem_cons.2 ⟨⟨rfl, fun _ => rfl⟩, ?_⟩
  exact List.forall_mem_nil _

theorem iscForms_run (b : Byte) (a : Word) : ∀ m ∈ iscForms b a, RunsRmw inc8 iscA m := by
  unfold iscForms
  repeat refine List.forall_mem_cons.2 ⟨⟨rfl, fun _ => rfl⟩, ?_⟩
  exact List.forall_mem_nil _

/-- Settles O52: the operand lists run `rmwClass` with the shift, rotate or count of the `8_eq` lemmas; what follows
it is the documented logic load, sum, difference or comparison on the new byte. -/
theorem combinedOperationsFollowTheirRules : Obligations.CombinedOperationsFollowTheirRules :=
  ⟨rmwRule_of_runs sloForms_run asl8_eq fun q s => loadA_eq (s.a ||| q.r) { s with c := q.carry },
    rmwRule_of_runs rlaForms_run rol8_eq fun q s => loadA_eq (s.a &&& q.r) { s with c := q.carry },
    rmwRule_of_runs sreForms_run lsr8_eq fun q s => loadA_eq (s.a ^^^ q.r) { s with c := q.carry },
    rmwRule_of_runs rraForms_run ror8_eq fun q s => setSum_eq (add8 s.a q.r q.carry) s,
    rmwRule_of_runs dcpForms_run dec8_eq fun q s => compare_eq s.a q.r s,
    rmwRule_of_runs iscForms_run inc8_eq fun q s => setSum_eq (sub8 s.a q.r s.c) s⟩

-- Immediate combinations

/-- No bit is shifted into the sign (R173). -/
theorem lsr8_sign (w : Byte) (c : Bool) : (lsr8 w c).r.getLsbD 7 = false := by
  rw [lsr8, BitVec.getLsbD_ushiftRight]
  exact BitVec.getLsbD_of_ge w 8 (Nat.le_refl 8)

theorem anc_eq (w : Byte) (s : State) : anc w s =
    { s with a := s.a &&& w, n := (s.a &&& w).getLsbD 7, z := decide (s.a &&& w = 0),
             c := (s.a &&& w).getLsbD 7 } := by
  rw [anc, loadA_eq]

theorem alr_eq (w : Byte) (s : State) : alr w s =
    { s with a := BitVec.ofNat 8 ((s.a &&& w).toNat / 2), n := false,
             z := decide (BitVec.ofNat 8 ((s.a &&& w).toNat / 2) = 0), c := (s.a &&& w).getLsbD 0 } := by
  have hr : (lsr8 (s.a &&& w) s.c).r = BitVec.ofNat 8 ((s.a &&& w).toNat / 2) := by rw [lsr8_eq]
  rw [alr, loadA_eq, lsr8_sign, hr]
  rfl

theorem arr_eq (w : Byte) (s : State) : arr w s =
    let r := BitVec.ofNat 8 ((s.a &&& w).toNat / 2 + s.c.toNat * 128)
    { s with a := r, n := s.c, z := decide (r = 0), c := r.getLsbD 6, v := r.getLsbD 6 != r.getLsbD 5 } := by
  rw [arr, loadA_eq, ror8_sign, ror8_eq]

theorem sbx_eq (w : Byte) (s : State) : sbx w s =
    let r := BitVec.ofNat 8 ((s.a &&& s.x).toNat + 256 - w.toNat)
    { s with x := r, n := r.getLsbD 7, z := decide (r = 0), c := decide ((s.a &&& s.x).toNat ≥ w.toNat) } := by
  rw [sbx, loadX_eq, sub_eq_ofNat]

theorem ancForms_run (b : Byte) (a : Word) : ∀ f ∈ ancForms b a, RunsRead anc f := by
  unfold ancForms
  repeat refine List.forall_mem_cons.2 ⟨⟨rfl, fun _ => rfl, rfl⟩, ?_⟩
  exact List.forall_mem_nil _

theorem alrForms_run (b : Byte) (a : Word) : ∀ f ∈ alrForms b a, RunsRead alr f :=
  List.forall_mem_singleton.2 ⟨rfl, fun _ => rfl, rfl⟩

theorem arrForms_run (b : Byte) (a : Word) : ∀ f ∈ arrForms b a, RunsRead arr f :=
  List.forall_mem_singleton.2 ⟨rfl, fun _ => rfl, rfl⟩

theorem sbxForms_run (b : Byte) (a : Word) : ∀ f ∈ sbxForms b a, RunsRead sbx f :=
  List.forall_mem_singleton.2 ⟨rfl, fun _ => rfl, rfl⟩

/-- Settles O53: the operand lists run `readClass` with the four effects, given as arithmetic by their `_eq` lemmas. -/
theorem immediateCombinationsFollowTheirRules : Obligations.ImmediateCombinationsFollowTheirRules :=
  ⟨readRule_of_runs ancForms_run anc_eq, readRule_of_runs alrForms_run alr_eq,
    readRule_of_runs arrForms_run arr_eq, readRule_of_runs sbxForms_run sbx_eq⟩

end Sys2Proof.Machine
end

section
/-! The pixel processor (44_pixel_processor.md): the ports of its register window, pixel memory, the scan of dots
and lines, and what one line shows. -/

namespace Sys2Proof.Machine

-- Bits of a byte

/-- The bits that a mask of the low `n` bits keeps. -/
theorem getLsbD_and_lowMask (w : Byte) (n k : Nat) :
    (w &&& BitVec.ofNat 8 (2 ^ n - 1)).getLsbD k = (w.getLsbD k && decide (k < n)) := by
  rw [BitVec.getLsbD_and, BitVec.getLsbD_ofNat, Nat.testBit_two_pow_sub_one, ← Bool.and_assoc]
  congr 1
  by_cases hk : k < 8
  · rw [decide_eq_true hk, Bool.and_true]
  · rw [BitVec.getLsbD_of_ge w k (by omega), Bool.false_and]

theorem getLsbD_or_bit (w : Byte) {j : Nat} (hj : j < 8) (k : Nat) :
    (w ||| BitVec.twoPow 8 j).getLsbD k = (w.getLsbD k || decide (k = j)) := by
  simp [hj, eq_comm]

/-- Clearing the top bit leaves the seven others. -/
theorem getLsbD_and_7F (w : Byte) (k : Nat) : (w &&& 0x7F).getLsbD k = (w.getLsbD k && decide (k ≠ 7)) := by
  rw [show (0x7F : Byte) = BitVec.ofNat 8 (2 ^ 7 - 1) from rfl, getLsbD_and_lowMask]
  by_cases hk : k < 8
  · congr 1
    exact decide_eq_decide.2 (by omega)
  · rw [BitVec.getLsbD_of_ge w k (by omega), Bool.false_and, Bool.false_and]

/-- The status byte: five bits of the open-bus shadow under three flags (R273). -/
theorem getLsbD_statusByte (p : Ppu) (k : Nat) :
    (statusByte p).getLsbD k = if k < 5 then p.obus.getLsbD k else p.status.getLsbD k := by
  have hmask : ∀ k < 8, (0xE0 : Byte).getLsbD k = decide (5 ≤ k) := by decide
  by_cases hk : k < 8
  · rw [statusByte, BitVec.getLsbD_or, BitVec.getLsbD_and, BitVec.getLsbD_setWidth, hmask k hk, decide_eq_true hk,
      Bool.true_and]
    by_cases h5 : k < 5
    · rw [if_pos h5, decide_eq_false (by omega), Bool.and_false, Bool.false_or]
    · rw [if_neg h5, decide_eq_true (by omega), Bool.and_true, BitVec.getLsbD_of_ge p.obus k (by omega), Bool.or_false]
  · rw [if_neg (by omega), BitVec.getLsbD_of_ge _ k (by omega), BitVec.getLsbD_of_ge _ k (by omega)]

-- The register window

theorem busRead_ppuReg {a : Word} {s : State} (hook : s.ppuHook = true) (h1 : 0x2000 ≤ a.toNat)
    (h2 : a.toNat ≤ 0x3FFF) : busRead a s = ppuRegRead (ppuReg a) s := by
  simp only [busRead, region_ppu h1 h2, hook, if_true]

theorem busWrite_ppuReg {a : Word} {s : State} (w : Byte) (hook : s.ppuHook = true) (h1 : 0x2000 ≤ a.toNat)
    (h2 : a.toNat ≤ 0x3FFF) : busWrite a w s = ppuRegWrite (ppuReg a) w s := by
  simp only [busWrite, region_ppu h1 h2, hook, if_true]

/-- A register write that raises nothing: the open-bus shadow first, then the register's own rule (R270, R283). -/
theorem ppuRegWrite_eq_ok {r : PpuReg} {s : State} (w : Byte) (h : r = .vramData → s.ppu.vaddr.toNat < 0x4000) :
    ppuRegWrite r w s =
      .ok () { s with ppu := ppuStore r w { s.ppu with obus := BitVec.ofNat 5 w.toNat } } := by
  rw [BitVec.ofNat_toNat]
  refine if_neg ?_
  simpa [vaddrLegal] using h

theorem busWrite_ppuReg_ok {a : Word} {s : State} (w : Byte) (hook : s.ppuHook = true) (h1 : 0x2000 ≤ a.toNat)
    (h2 : a.toNat ≤ 0x3FFF) (h : a.toNat % 8 = 7 → s.ppu.vaddr.toNat < 0x4000) : busWrite a w s =
      .ok () { s with ppu := ppuStore (ppuReg a) w { s.ppu with obus := BitVec.ofNat 5 w.toNat } } := by
  rw [busWrite_ppuReg w hook h1 h2]
  exact ppuRegWrite_eq_ok w fun hr => h (ppuReg_eq_vramData.1 hr)

theorem busRead_ioReg {a : Word} {s : State} (hook : s.ioHook = true) (h1 : 0x4000 ≤ a.toNat) (h2 : a.toNat ≤ 0x41FF) :
    busRead a s = ioRead (ioReg a) s := by
  rw [busRead_ioWindow h1 h2, ioWindowRead, if_pos hook]

theorem busWrite_ioReg {a : Word} {s : State} (w : Byte) (hook : s.ioHook = true) (h1 : 0x4000 ≤ a.toNat)
    (h2 : a.toNat ≤ 0x41FF) (hne : a.toNat ≠ 0x4014) : busWrite a w s = .ok () (ioWrite (ioReg a) w s) := by
  simp only [busWrite, region_io h1 h2 hne, hook, if_true]

-- Open reads

/-- The registers of the I/O window that a read rule is given for (R342, R372, R389 to R392). -/
def readableIoRegs : List IoReg :=
  [.channels, .strobe, .frame, .disk .status, .disk .readData, .disk .driveStatus, .disk .externalInput]

/-- The registers of the I/O window that ignore a write, with or without the Disk System (R344, R394). -/
def readOnlyIoRegs : List IoReg :=
  [.unassigned, .disk .status, .disk .readData, .disk .driveStatus, .disk .externalInput]

theorem ioReg_not_readable {a : Word}
    (h : a.toNat < 0x4015 ∨ (0x4017 < a.toNat ∧ a.toNat < 0x4030) ∨ 0x4033 < a.toNat) : ioReg a ∉ readableIoRegs := by
  unfold ioReg readableIoRegs
  split <;> simp <;> omega

theorem ioReg_readOnly {a : Word}
    (h : a.toNat = 0x4009 ∨ a.toNat = 0x400D ∨ (0x4010 ≤ a.toNat ∧ a.toNat ≤ 0x4013) ∨
      (0x4018 ≤ a.toNat ∧ a.toNat ≤ 0x401F) ∨ 0x4027 ≤ a.toNat) : ioReg a ∈ readOnlyIoRegs := by
  unfold ioReg readOnlyIoRegs
  split <;> simp <;> omega

theorem ioRead_of_not_readable {r : IoReg} (h : r ∉ readableIoRegs) (s : State) : ioRead r s = freeRead s := by
  cases r
  case channels | strobe | frame => simp [readableIoRegs] at h
  case disk q =>
    cases q
    case status | readData | driveStatus | externalInput => simp [readableIoRegs] at h
    all_goals exact ite_self _
  all_goals rfl

theorem ioWrite_of_readOnly {r : IoReg} (h : r ∈ readOnlyIoRegs) (w : Byte) (s : State) : ioWrite r w s = s := by
  cases r
  case unassigned => rfl
  case disk q =>
    cases q
    case status | readData | driveStatus | externalInput => exact ite_self _
    all_goals simp [readOnlyIoRegs] at h
  all_goals simp [readOnlyIoRegs] at h

/-- Settles O28: the addresses select no readable register, or a read-only one. -/
theorem openReadsDrawAFreeByte : Obligations.OpenReadsDrawAFreeByte := by
  refine ⟨fun s a hook h1 h2 hopen => ?_, fun s a hook h1 h2 hopen => ?_, fun s a w hook h => ?_⟩
  · rw [busRead_ppuReg hook h1 h2]
    obtain h | h | h | h | h := hopen <;> simp only [ppuReg, h] <;> rfl
  · rw [busRead_ioReg hook h1 h2, ioRead_of_not_readable (ioReg_not_readable hopen)]
    rfl
  · rw [busWrite_ioReg w hook (by omega) (by omega) (by omega), ioWrite_of_readOnly (ioReg_readOnly (by omega))]

-- Status, control, mask, OAM, scroll and address ports

/-- Settles O29: the register is the status register, and `statusWasRead` clears bit 7 and the latch. -/
theorem statusReadClearsVblankAndLatch : Obligations.StatusReadClearsVblankAndLatch := by
  intro s a hook h1 h2 ha
  refine ⟨statusByte s.ppu, { s with ppu := statusWasRead s.ppu }, ?_, getLsbD_statusByte s.ppu, rfl,
    getLsbD_and_7F s.ppu.status⟩
  rw [busRead_ppuReg hook h1 h2, ppuReg_eq_status.2 ha]
  rfl

/-- Two bytes joined by `|||` are joined by addition, the low one being below 256. -/
theorem or_eq_ofNat_of_bytes {x y : BitVec 15} {hi lo : Nat} (hx : x.toNat = hi * 256) (hy : y.toNat = lo)
    (hlo : lo < 256) : x ||| y = BitVec.ofNat 15 (hi * 256 + lo) := by
  apply BitVec.eq_of_toNat_eq
  have hadd := Nat.two_pow_add_eq_or_of_lt (i := 8) hlo hi
  have hlt := (x ||| y).isLt
  rw [BitVec.toNat_or, hx, hy, Nat.mul_comm hi, ← hadd] at *
  rw [BitVec.toNat_ofNat, Nat.mod_eq_of_lt hlt]

/-- The first write of a pair gives the VRAM address its high seven bits (R277). -/
theorem vaddr_first_write (v : BitVec 15) (w : Byte) :
    ((w.setWidth 15 &&& 0x7F) <<< 8) ||| (v &&& 0x00FF) = BitVec.ofNat 15 (w.toNat % 128 * 256 + v.toNat % 256) := by
  have hw := w.isLt
  refine or_eq_ofNat_of_bytes ?_ (Nat.and_two_pow_sub_one_eq_mod v.toNat 8) (Nat.mod_lt _ (by decide))
  have hand : (w.setWidth 15 &&& 0x7F).toNat = w.toNat % 128 := by
    rw [BitVec.toNat_and, BitVec.toNat_setWidth_of_le (by decide)]
    exact Nat.and_two_pow_sub_one_eq_mod w.toNat 7
  rw [BitVec.toNat_shiftLeft, hand, Nat.shiftLeft_eq]
  omega

/-- A mask of the high seven bits clears the low eight. -/
theorem and_7F00_eq_shift (v : BitVec 15) : v &&& (0x7F00 : BitVec 15) = (v >>> 8) <<< 8 := by
  have hmask : ∀ i < 15, (0x7F00 : BitVec 15).getLsbD i = decide (8 ≤ i) := by decide
  apply BitVec.eq_of_getLsbD_eq
  intro i hi
  rw [BitVec.getLsbD_and, BitVec.getLsbD_shiftLeft, BitVec.getLsbD_ushiftRight, hmask i hi, decide_eq_true hi]
  by_cases h8 : 8 ≤ i
  · rw [decide_eq_true h8, decide_eq_false (by omega), Bool.and_true, Bool.not_false, Bool.true_and, Bool.true_and,
      Nat.add_sub_cancel' h8]
  · rw [decide_eq_false h8, decide_eq_true (by omega), Bool.and_false, Bool.not_true, Bool.and_false, Bool.false_and]

/-- The second write gives it its low eight bits (R277). -/
theorem vaddr_second_write (v : BitVec 15) (w : Byte) :
    (v &&& 0x7F00) ||| w.setWidth 15 = BitVec.ofNat 15 (v.toNat / 256 * 256 + w.toNat) := by
  have hv := v.isLt
  refine or_eq_ofNat_of_bytes ?_ (BitVec.toNat_setWidth_of_le (by decide)) w.isLt
  rw [and_7F00_eq_shift, BitVec.toNat_shiftLeft, BitVec.toNat_ushiftRight, Nat.shiftRight_eq_div_pow, Nat.shiftLeft_eq]
  omega

/-- Settles O30: `busWrite_ppuReg_ok` at each register, with `ppuStore` in arithmetic. -/
theorem pixelPortWrites : Obligations.PixelPortWrites := by
  refine ⟨fun s a w hook h1 h2 => ?_, fun s a w hook h1 h2 => ?_⟩
  · have hw := fun h7 : a.toNat % 8 ≠ 7 => busWrite_ppuReg_ok w hook h1 h2 fun h => absurd h h7
    refine ⟨fun h => ?control, fun h => ?mask, fun h => ?status, fun h => ?oamAddress, fun h => ?oamData,
      fun h => ?oamRead⟩
    case oamRead =>
      rw [busRead_ppuReg hook h1 h2]
      simp only [ppuReg, h, ppuRegRead]
    all_goals
      rw [hw (by omega)]
      simp only [ppuReg, h, ppuStore, BitVec.ofNat_toNat, inc_eq_ofNat]
  · have hw := fun h7 : a.toNat % 8 ≠ 7 => busWrite_ppuReg_ok w hook h1 h2 fun h => absurd h h7
    refine ⟨fun h hl => ?scrollX, fun h hl => ?scrollY, fun h hl => ?vaddrHigh, fun h hl => ?vaddrLow⟩
    all_goals
      rw [hw (by omega)]
      simp only [ppuReg, h, ppuStore, hl, if_true, if_false, Bool.false_eq_true, vaddr_first_write, vaddr_second_write]

-- Pixel memory

/-- The cell behind an address of pixel memory: the pattern tables are memory 0, the nametable banks 1 and 2, the
palette 3 (R286, R288, R289). -/
def pixelCell (m : Mirroring) (a : Nat) : Fin 4 × Nat :=
  if a < 0x2000 then (0, a)
  else if a < 0x3F00 then (if bankOf m (a / 0x400 % 4) = 0 then 1 else 2, a % 0x400)
  else (3, palIndex (a % 0x20))

/-- The bits of a cell that an address reaches: six of a palette entry (R289). -/
def pixelMask (a : Nat) : Byte := if 0x3F00 ≤ a then 0x3F else 0xFF

/-- The four memories that `pixelCell` numbers. -/
def pixelBank (p : Ppu) : Fin 4 → Memory
  | 0 => p.pat
  | 1 => p.nt0
  | 2 => p.nt1
  | 3 => p.pal

theorem pixelCell_pattern (m : Mirroring) {a : Nat} (h : a < 0x2000) : pixelCell m a = (0, a) := if_pos h

theorem pixelCell_nametable (m : Mirroring) {a : Nat} (h : 0x2000 ≤ a) (h' : a < 0x3F00) :
    pixelCell m a = (if bankOf m (a / 0x400 % 4) = 0 then 1 else 2, a % 0x400) := by
  rw [pixelCell, if_neg (by omega), if_pos h']

theorem pixelCell_palette (m : Mirroring) {a : Nat} (h : 0x3F00 ≤ a) : pixelCell m a = (3, palIndex (a % 0x20)) := by
  rw [pixelCell, if_neg (by omega), if_neg (by omega)]

/-- The palette's addresses are those whose cell lies in the palette. -/
theorem pixelCell_fst_eq_three {m : Mirroring} {a : Nat} : (pixelCell m a).1 = 3 ↔ 0x3F00 ≤ a := by
  by_cases h1 : a < 0x2000
  · rw [pixelCell_pattern m h1]
    exact iff_of_false (by simp) (by omega)
  by_cases h2 : a < 0x3F00
  · rw [pixelCell_nametable m (by omega) h2]
    exact iff_of_false (by split <;> simp) (by omega)
  · rw [pixelCell_palette m (by omega)]
    exact iff_of_true rfl (by omega)

theorem pixelMask_palette {a : Nat} (h : 0x3F00 ≤ a) : pixelMask a = 0x3F := if_pos h

theorem and_pixelMask_of_lt {a : Nat} (h : a < 0x3F00) (w : Byte) : w &&& pixelMask a = w := by
  rw [pixelMask, if_neg (by omega)]
  exact BitVec.and_allOnes

/-- Addresses of one cell reach the same bits of it. -/
theorem pixelMask_of_pixelCell_eq {m : Mirroring} {a b : Nat} (h : pixelCell m b = pixelCell m a) :
    pixelMask b = pixelMask a := by
  have hpal : 0x3F00 ≤ b ↔ 0x3F00 ≤ a := by rw [← pixelCell_fst_eq_three (m := m), h, pixelCell_fst_eq_three]
  exact ite_congr (propext hpal) (fun _ => rfl) fun _ => rfl

theorem vramRead_eq (p : Ppu) (a : Nat) : vramRead p a =
    readCell (pixelBank p (pixelCell p.mirror a).1) (pixelCell p.mirror a).2 &&& pixelMask a := by
  unfold vramRead ntRead
  by_cases h1 : a < 0x2000
  · rw [if_pos h1, pixelCell_pattern _ h1, and_pixelMask_of_lt (by omega)]
    rfl
  by_cases h2 : a < 0x3F00
  · rw [if_neg h1, if_pos h2, pixelCell_nametable _ (by omega) h2, and_pixelMask_of_lt h2]
    split <;> rfl
  · rw [if_neg h1, if_neg h2, pixelCell_palette _ (by omega), pixelMask_palette (by omega)]
    rfl

/-- A write of pixel memory changes one cell of its four memories and nothing else (R286). -/
theorem vramWrite_eq (p : Ppu) (a : Nat) (w : Byte) : vramWrite p a w =
    let bank := fun k => if k = (pixelCell p.mirror a).1
      then writeCell (pixelBank p k) (pixelCell p.mirror a).2 (w &&& pixelMask a) else pixelBank p k
    { p with pat := bank 0, nt0 := bank 1, nt1 := bank 2, pal := bank 3 } := by
  unfold vramWrite ntWrite
  by_cases h1 : a < 0x2000
  · rw [if_pos h1, pixelCell_pattern _ h1, and_pixelMask_of_lt (by omega)]
    rfl
  by_cases h2 : a < 0x3F00
  · rw [if_neg h1, if_pos h2, pixelCell_nametable _ (by omega) h2, and_pixelMask_of_lt h2]
    split <;> rfl
  · rw [if_neg h1, if_neg h2, pixelCell_palette _ (by omega), pixelMask_palette (by omega)]
    rfl

theorem pixelBank_vramWrite (p : Ppu) (a : Nat) (w : Byte) (k : Fin 4) : pixelBank (vramWrite p a w) k =
    if k = (pixelCell p.mirror a).1 then writeCell (pixelBank p k) (pixelCell p.mirror a).2 (w &&& pixelMask a)
    else pixelBank p k := by
  rw [vramWrite_eq]
  match k with
  | 0 | 1 | 2 | 3 => rfl

theorem vramWrite_mirror (p : Ppu) (a : Nat) (w : Byte) : (vramWrite p a w).mirror = p.mirror := by
  rw [vramWrite_eq]

theorem pixelBank_wf {p : Ppu} (h : ppuWf p = true) (k : Fin 4) : ∃ hi, memoryWf 0 hi (pixelBank p k) = true := by
  obtain ⟨-, hpat, hnt0, hnt1, hpal, -⟩ := ppuWf_iff.1 h
  rw [paletteWf, Bool.and_eq_true] at hpal
  match k with
  | 0 => exact ⟨_, hpat⟩
  | 1 => exact ⟨_, hnt0⟩
  | 2 => exact ⟨_, hnt1⟩
  | 3 => exact ⟨_, hpal.1⟩

/-- What pixel memory reads after a write: the byte at the addresses of the cell written, elsewhere what it read
before (R286 to R289). -/
theorem vramRead_vramWrite {p : Ppu} (h : ppuWf p = true) (a b : Nat) (w : Byte) : vramRead (vramWrite p a w) b =
    if pixelCell p.mirror b = pixelCell p.mirror a then w &&& pixelMask a else vramRead p b := by
  obtain ⟨hi, hwf⟩ := pixelBank_wf h (pixelCell p.mirror b).1
  rw [vramRead_eq, vramWrite_mirror, pixelBank_vramWrite]
  by_cases heq : pixelCell p.mirror b = pixelCell p.mirror a
  · rw [if_pos heq, if_pos (congrArg _ heq), heq, readCell_writeCell_same (heq ▸ hwf), pixelMask_of_pixelCell_eq heq,
      BitVec.and_assoc, BitVec.and_self]
  rw [if_neg heq, vramRead_eq]
  by_cases hbank : (pixelCell p.mirror b).1 = (pixelCell p.mirror a).1
  · rw [if_pos hbank, readCell_writeCell_other hwf _ fun hcell => heq (Prod.ext hbank hcell)]
  · rw [if_neg hbank]

/-- Settles O32: the statement's cells are those of `pixelCell`. -/
theorem pixelMemoryAliases : Obligations.PixelMemoryAliases := by
  unfold Obligations.PixelMemoryAliases
  intro cell p a b w hwf _ _
  have hcell : ∀ m x, cell m x = ((pixelCell m x).1.val, (pixelCell m x).2) := by
    intro m x
    by_cases h1 : x < 0x2000
    · rw [pixelCell_pattern _ h1]
      exact if_pos h1
    by_cases h2 : x < 0x3F00
    · rw [pixelCell_nametable _ (by omega) h2]
      have hL : x / 0x400 % 4 < 4 := Nat.mod_lt _ (by decide)
      simp only [cell, if_neg h1, if_pos h2]
      generalize x / 0x400 % 4 = L at hL
      match m, L, hL with
      | .vertical, 0, _ | .vertical, 1, _ | .vertical, 2, _ | .vertical, 3, _ => rfl
      | .horizontal, 0, _ | .horizontal, 1, _ | .horizontal, 2, _ | .horizontal, 3, _ => rfl
    · rw [pixelCell_palette _ (by omega)]
      simp only [cell, if_neg h1, if_neg h2, palIndex, Bool.or_eq_true, decide_eq_true_eq, or_assoc]
      rfl
  have hiff : cell p.mirror b = cell p.mirror a ↔ pixelCell p.mirror b = pixelCell p.mirror a := by
    rw [hcell, hcell, Prod.ext_iff, Prod.ext_iff, Fin.val_inj]
  have hmask : w &&& pixelMask a = if 0x3F00 ≤ a then w &&& 0x3F else w := by
    split
    · rw [pixelMask_palette ‹_›]
    · exact and_pixelMask_of_lt (by omega) w
  rw [vramRead_vramWrite hwf, hmask]
  exact ite_congr (propext hiff.symm) (fun _ => rfl) fun _ => rfl

-- The data port

/-- The VRAM address after a data-port access: 1 or 32 more, modulo `2^15` (R280). -/
def nextVaddr (p : Ppu) : BitVec 15 := BitVec.ofNat 15 (p.vaddr.toNat + (if p.ctrl.getLsbD 2 then 32 else 1))

theorem bumpVaddr_eq (p : Ppu) : bumpVaddr p = { p with vaddr := nextVaddr p } := by
  simp [bumpVaddr, vramStep, nextVaddr, BitVec.ofNat_add]

/-- The pixel processor after a data-port write inside the window (R279, R280, R283). -/
theorem ppuStore_vramData (p : Ppu) (q : BitVec 5) (w : Byte) : ppuStore .vramData w { p with obus := q } =
    { vramWrite p p.vaddr.toNat w with obus := q, vaddr := nextVaddr p } := by
  rw [ppuStore, bumpVaddr_eq, vramWrite_eq, vramWrite_eq]
  rfl

/-- A data-port read inside the window (R278, R280). -/
theorem ppuRegRead_vramData {s : State} (h : s.ppu.vaddr.toNat < 0x4000) : ppuRegRead .vramData s =
    .ok (dataPortByte s.ppu) { s with ppu := { s.ppu with
      rbuf := if 0x3F00 ≤ s.ppu.vaddr.toNat then s.ppu.rbuf else vramRead s.ppu s.ppu.vaddr.toNat,
      vaddr := nextVaddr s.ppu } } := by
  have hnext : s.ppu.vaddr + BitVec.ofNat 15 (vramStep s.ppu) = nextVaddr s.ppu :=
    congrArg Ppu.vaddr (bumpVaddr_eq s.ppu)
  have hlegal : vaddrLegal s.ppu = true := decide_eq_true h
  rw [ppuRegRead, if_pos hlegal, dataPortWasRead_eq, hnext]

/-- Outside the window a data-port access raises `VramRange`; a write has latched the open-bus shadow (R287). -/
theorem ppuReg_vramRange {s : State} (h : 0x4000 ≤ s.ppu.vaddr.toNat) :
    ppuRegRead .vramData s = .stop (.vramRange s.ppu.vaddr) s ∧
    ∀ w, ppuRegWrite .vramData w s =
      .stop (.vramRange s.ppu.vaddr) { s with ppu := { s.ppu with obus := w.setWidth 5 } } := by
  have hrange : ¬ vaddrLegal s.ppu = true := by simpa [vaddrLegal] using h
  exact ⟨if_neg hrange, fun w => if_pos (by simpa [vaddrLegal] using h)⟩

/-- Settles O31: inside the window `ppuRegRead_vramData` and `ppuStore_vramData`, outside it `ppuReg_vramRange`. -/
theorem dataPortAccesses : Obligations.DataPortAccesses := by
  refine ⟨fun s a w hook h1 h2 h7 hv => ?_, fun s a w hook h1 h2 h7 => ?_⟩
  · rw [busRead_ppuReg hook h1 h2, busWrite_ppuReg_ok w hook h1 h2 fun _ => hv, ppuReg_eq_vramData.2 h7,
      ppuRegRead_vramData hv, ppuStore_vramData]
    refine ⟨fun hbuf => ?_, fun hpal => ?_, rfl⟩
    · rw [dataPortByte, if_neg (by omega), if_neg (by omega)]
      rfl
    · rw [dataPortByte, if_pos hpal, if_pos hpal]
      rfl
  · rw [busRead_ppuReg hook h1 h2, busWrite_ppuReg w hook h1 h2, ppuReg_eq_vramData.2 h7]
    refine ⟨fun hv => ?_, fun hv => ?_⟩
    · obtain ⟨hread, hwrite⟩ := ppuReg_vramRange hv
      exact ⟨hread, _, hwrite w, rfl⟩
    · exact ⟨⟨_, _, ppuRegRead_vramData hv⟩, _, ppuRegWrite_eq_ok w fun _ => hv⟩

-- The scan of dots and lines

/-- How many dots the counters stand past dot 0 of line -1 of frame 0. -/
def dotsElapsed (p : Ppu) : Int := p.frame * (341 * 262) + (p.scanline + 1) * 341 + p.dot

/-- The counters are in their range (R26). -/
def CountersInRange (p : Ppu) : Prop := p.dot ≤ 340 ∧ -1 ≤ p.scanline ∧ p.scanline ≤ 260

/-- The three counters after one dot (R295). -/
theorem advanceDot_eq (p : Ppu) : advanceDot p = { p with
    dot := if p.dot = 340 then 0 else p.dot + 1,
    scanline := if p.dot = 340 then (if p.scanline = 260 then -1 else p.scanline + 1) else p.scanline,
    frame := if p.dot = 340 ∧ p.scanline = 260 then p.frame + 1 else p.frame } := by
  have hdot : p.dot + 1 = 341 ↔ p.dot = 340 := by omega
  have hline : p.scanline + 1 = 261 ↔ p.scanline = 260 := by omega
  unfold advanceDot
  simp only [hdot, hline]
  by_cases hd : p.dot = 340 <;> by_cases hl : p.scanline = 260 <;> simp [hd, hl]

/-- One dot further, and the counters stay in their range. -/
theorem advanceDot_dotsElapsed {p : Ppu} (h : CountersInRange p) :
    CountersInRange (advanceDot p) ∧ dotsElapsed (advanceDot p) = dotsElapsed p + 1 := by
  obtain ⟨hdot, hlo, hhi⟩ := h
  rw [advanceDot_eq]
  unfold CountersInRange dotsElapsed
  by_cases hd : p.dot = 340
  · by_cases hl : p.scanline = 260 <;> simp only [hd, hl, and_self, and_false, if_true, if_false] <;> omega
  · simp only [hd, false_and, if_false]
    omega

/-- The event of a position does not touch the counters. -/
theorem ppuTick_dotsElapsed {s : State} (h : CountersInRange s.ppu) :
    CountersInRange (ppuTick s).ppu ∧ dotsElapsed (ppuTick s).ppu = dotsElapsed s.ppu + 1 := by
  obtain ⟨st, sel, he, -⟩ := ppuEvent_ppu s
  have htick : (ppuTick s).ppu = advanceDot { s.ppu with status := st, ntSel := sel } := congrArg advanceDot he
  rw [htick]
  exact advanceDot_dotsElapsed (p := { s.ppu with status := st, ntSel := sel }) h

theorem repeat_ppuTick_dotsElapsed {s : State} (h : CountersInRange s.ppu) (n : Nat) :
    CountersInRange (Nat.repeat ppuTick n s).ppu ∧
      dotsElapsed (Nat.repeat ppuTick n s).ppu = dotsElapsed s.ppu + n := by
  induction n with
  | zero => exact ⟨h, (Int.add_zero _).symm⟩
  | succ n ih =>
    obtain ⟨hrange, hdots⟩ := ih
    obtain ⟨hrange', hdots'⟩ := ppuTick_dotsElapsed hrange
    exact ⟨hrange', by rw [Nat.repeat, hdots', hdots]; push_cast; omega⟩

/-- Counters in range are the digits of `dotsElapsed`, so a frame's dots raise the frame number by one. -/
theorem counters_of_frame_elapsed {p q : Ppu} (hp : CountersInRange p) (hq : CountersInRange q)
    (h : dotsElapsed q = dotsElapsed p + (341 * 262 : Nat)) :
    q.dot = p.dot ∧ q.scanline = p.scanline ∧ q.frame = p.frame + 1 := by
  obtain ⟨hd, hlo, hhi⟩ := hp
  obtain ⟨hd', hlo', hhi'⟩ := hq
  unfold dotsElapsed at h
  refine ⟨?_, ?_, ?_⟩ <;> omega

/-- Settles O33: `dotsElapsed` has risen by one frame. -/
theorem frameIs89342Ticks : Obligations.FrameIs89342Ticks := by
  intro s hdot hlo hhi
  obtain ⟨hrange, hdots⟩ := repeat_ppuTick_dotsElapsed ⟨hdot, hlo, hhi⟩ (341 * 262)
  exact counters_of_frame_elapsed ⟨hdot, hlo, hhi⟩ hrange hdots

-- The events

theorem ppuEvent_preRender {s : State} (hl : s.ppu.scanline = -1) (hd : s.ppu.dot = 1) :
    ppuEvent s = preRenderEvent s := if_pos ⟨hl, hd⟩

theorem ppuEvent_line {s : State} (h0 : 0 ≤ s.ppu.scanline) (h239 : s.ppu.scanline ≤ 239) (hd : s.ppu.dot = 0) :
    ppuEvent s = renderScanline s.ppu.scanline.toNat s := by
  rw [ppuEvent, if_neg (by omega), if_pos ⟨h0, h239, hd⟩]

theorem ppuEvent_vblank {s : State} (hl : s.ppu.scanline = 241) (hd : s.ppu.dot = 1) :
    ppuEvent s = vblankEvent s := by
  rw [ppuEvent, if_neg (by omega), if_neg (by omega), if_pos ⟨hl, hd⟩]

theorem ppuEvent_none {s : State} (hevent : ¬ (s.ppu.dot = 1 ∧ (s.ppu.scanline = -1 ∨ s.ppu.scanline = 241)))
    (hline : ¬ (s.ppu.dot = 0 ∧ 0 ≤ s.ppu.scanline ∧ s.ppu.scanline ≤ 239)) : ppuEvent s = s := by
  rw [ppuEvent, if_neg (by omega), if_neg (by omega), if_neg (by omega)]

/-- Settles O34: the event of each position, then `advanceDot_eq`. -/
theorem tickEventsAndAdvance : Obligations.TickEventsAndAdvance := by
  refine ⟨fun s hl hd => ?_, fun s hl hd => ?_, fun s _ _ _ hevent hline => ?_⟩
  · refine ⟨s.ppu.status &&& 0x3F, getLsbD_and_lowMask s.ppu.status 6, ?_⟩
    rw [ppuTick, ppuEvent_preRender hl hd, advanceDot_eq]
    simp [preRenderEvent, hl, hd]
  · refine ⟨s.ppu.status ||| 0x80, getLsbD_or_bit s.ppu.status (j := 7) (by decide), ?_⟩
    rw [ppuTick, ppuEvent_vblank hl hd, advanceDot_eq]
    simp [vblankEvent, hl, hd]
  · rw [ppuTick, ppuEvent_none hevent hline, advanceDot_eq]

-- One line

theorem frontSprite_eq_none {p : Ppu} {s x : Nat} : frontSprite p s x = none ↔ ∀ i < 64, spriteIndex p i s x = 0 := by
  simp [frontSprite]

/-- The front sprite is the lowest with an opaque pixel (R310). -/
theorem frontSprite_eq_some {p : Ppu} {s x i : Nat} : frontSprite p s x = some i ↔
    i < 64 ∧ spriteIndex p i s x ≠ 0 ∧ ∀ j < i, spriteIndex p j s x = 0 := by
  rw [frontSprite, List.find?_range_eq_some]
  simp only [bne_iff_ne, List.mem_range, Bool.not_eq_true', bne_eq_false_iff_eq]
  exact and_left_comm

theorem composite_of_spritesOff {p : Ppu} (s x : Nat) (h : p.mask.getLsbD 4 = false) :
    composite p s x = (background p s x).colour := by
  have hoff : ¬ spritesOn p = true := by rw [spritesOn, h]; decide
  exact if_neg hoff

theorem composite_of_noSprite {p : Ppu} {s x : Nat} (h : ∀ i < 64, spriteIndex p i s x = 0) :
    composite p s x = (background p s x).colour := by
  simp [composite, frontSprite_eq_none.2 h]

/-- The front sprite shows unless it stands behind an opaque background (R311). -/
theorem composite_of_front {p : Ppu} {s x i : Nat} (hon : p.mask.getLsbD 4 = true) (h : frontSprite p s x = some i) :
    composite p s x = if (background p s x).idx ≠ 0 ∧ (readCell p.oam (4 * i + 2)).getLsbD 5 = true
      then (background p s x).colour else spriteColour p i s x := by
  simp [composite, spritesOn, hon, h, spriteByte]

/-- An opaque pixel lies on a line that its sprite covers (R308, R309). -/
theorem spriteCovers_of_opaque {p : Ppu} {i s x : Nat} (h : spriteIndex p i s x ≠ 0) : spriteCovers p i s = true := by
  cases hc : spriteCovers p i s with
  | true => rfl
  | false => simp [spriteIndex, hc] at h

/-- Sprite 0 hits where one of its opaque pixels lies over an opaque background pixel (R312). -/
theorem spriteZeroHit_iff {p : Ppu} {s : Nat} : spriteZeroHit p s = true ↔
    p.mask.getLsbD 3 = true ∧ p.mask.getLsbD 4 = true ∧
      ∃ x < 256, spriteIndex p 0 s x ≠ 0 ∧ (background p s x).idx ≠ 0 := by
  simp only [spriteZeroHit, spritesOn, bgOn, Bool.and_eq_true, List.any_eq_true, List.mem_range, bne_iff_ne]
  constructor
  · rintro ⟨⟨⟨hsp, hbg⟩, -⟩, hx⟩
    exact ⟨hbg, hsp, hx⟩
  · rintro ⟨hbg, hsp, x, hx, hop, hidx⟩
    exact ⟨⟨⟨hsp, hbg⟩, spriteCovers_of_opaque hop⟩, x, hx, hop, hidx⟩

/-- The status register after a line: the hit flag set on a hit, otherwise as before (R312). -/
def statusAfterLine (p : Ppu) (k : Nat) : Byte := if spriteZeroHit p k then p.status ||| 0x40 else p.status

theorem renderScanline_eq (k : Nat) (s : State) : renderScanline k s =
    { s with out := .lineOut k (renderLine s.ppu k) :: s.out,
             ppu := { s.ppu with status := statusAfterLine s.ppu k } } := by
  unfold renderScanline statusAfterLine
  split <;> rfl

/-- Settles O35: the row is `composite` at each column, the flag follows `spriteZeroHit_iff`. -/
theorem lineIsRenderedAtDotZero : Obligations.LineIsRenderedAtDotZero := by
  intro s h0 h239 hd k p
  refine ⟨renderLine p k, statusAfterLine p k, ?length, ?tick,
    fun x hx => ⟨composite p k x, ?pixel, ?off, ?clear, ?front⟩, ?hit, ?noHit⟩
  case length => rw [renderLine, List.length_map, List.length_range]
  case tick =>
    rw [ppuTick, ppuEvent_line h0 h239 hd, renderScanline_eq, advanceDot_eq]
    simp [p, k, hd]
  case pixel => simp [renderLine, hx]
  case off => exact composite_of_spritesOff k x
  case clear => exact fun _ => composite_of_noSprite
  case front => exact fun hon i hi hop hfirst => composite_of_front hon (frontSprite_eq_some.2 ⟨hi, hop, hfirst⟩)
  case hit =>
    intro hit
    rw [statusAfterLine, if_pos (spriteZeroHit_iff.2 hit)]
    exact getLsbD_or_bit p.status (j := 6) (by decide)
  case noHit => exact fun hno => if_neg (mt spriteZeroHit_iff.1 hno)

-- One pixel

theorem bitNat_mul (w : Byte) (k n : Nat) : bitNat w k * n = if w.getLsbD k then n else 0 := by
  unfold bitNat
  cases w.getLsbD k <;> simp

/-- The row of a sprite's pattern, by the sprite height (R308, R309). -/
theorem spritePattern_eq (p : Ppu) (i v : Nat) : spritePattern p i v =
    let t := (spriteByte p i 1).toNat
    if p.ctrl.getLsbD 5 then t % 2 * 0x1000 + (t / 2 * 2 + (if 8 ≤ v then 1 else 0)) * 16 + v % 8
    else (if p.ctrl.getLsbD 3 then 0x1000 else 0) + t * 16 + v := by
  unfold spritePattern spriteHeight
  rw [bitNat_mul]
  cases p.ctrl.getLsbD 5 <;> rfl

theorem inSprite_iff {p : Ppu} {i s x sx : Nat} :
    (spriteCovers p i s && decide (sx ≤ x) && decide (x ≤ sx + 7)) = true ↔
      spriteTop p i ≤ s ∧ s < spriteTop p i + spriteHeight p ∧ sx ≤ x ∧ x ≤ sx + 7 := by
  simp [spriteCovers, and_assoc]

/-- Settles O36: `background`, `spriteIndex` and `spriteColour` written out. -/
theorem backgroundAndSpritePixels : Obligations.BackgroundAndSpritePixels := by
  refine ⟨fun p s x h => ?_, fun p s x h => ?_, fun p i s x => ⟨?_, rfl⟩⟩
  · have hoff : ¬ bgOn p = true := by rw [bgOn, h]; decide
    exact if_neg hoff
  · have hon : bgOn p = true := h
    rw [background, if_pos hon, bitNat_mul]
    rfl
  · refine ite_congr (propext inSprite_iff) (fun _ => ?_) fun _ => rfl
    rw [spritePattern_eq]
    rfl

end Sys2Proof.Machine
end

section
/-! The audio processor and the controller ports (45_audio_processor.md): register writes, the units that a sequencer
step clocks, the output triples, and the buttons read out. -/

namespace Sys2Proof.Machine

-- Fields of a register byte

theorem setWidth_eq_extractLsb'_zero (w : Byte) (len : Nat) : w.setWidth len = w.extractLsb' 0 len := by
  rw [← BitVec.setWidth_ushiftRight_eq_extractLsb, BitVec.ushiftRight_zero]

/-- The bits of two bytes joined: those of the low one below bit 8, those of the high one from there. -/
theorem getLsbD_ofNat_bytes {n hi lo k : Nat} (hlo : lo < 256) (hk : k < n) :
    (BitVec.ofNat n (hi * 256 + lo)).getLsbD k = if k < 8 then lo.testBit k else hi.testBit (k - 8) := by
  rw [BitVec.getLsbD_ofNat, decide_eq_true hk, Bool.true_and, Nat.mul_comm]
  exact Nat.testBit_two_pow_mul_add (i := 8) hi hlo k

theorem timerLow_eq (w : Byte) (t : BitVec 11) :
    timerLow w t = BitVec.ofNat 11 (t.toNat / 256 * 256 + w.toNat) := by
  have hmask : ∀ k < 11, (0x700 : BitVec 11).getLsbD k = decide (8 ≤ k) := by decide
  apply BitVec.eq_of_getLsbD_eq
  intro k hk
  rw [getLsbD_ofNat_bytes w.isLt hk, timerLow, BitVec.getLsbD_or, BitVec.getLsbD_and, hmask k hk,
    BitVec.getLsbD_setWidth, decide_eq_true hk, Bool.true_and]
  by_cases h8 : k < 8
  · rw [if_pos h8, decide_eq_false (by omega), Bool.and_false, Bool.false_or, BitVec.testBit_toNat]
  · rw [if_neg h8, decide_eq_true (by omega), Bool.and_true, BitVec.getLsbD_of_ge w k (by omega), Bool.or_false,
      Nat.testBit_div_two_pow (n := 8), Nat.sub_add_cancel (by omega), BitVec.testBit_toNat]

theorem timerHigh_eq (w : Byte) (t : BitVec 11) :
    timerHigh w t = BitVec.ofNat 11 (w.toNat % 8 * 256 + t.toNat % 256) := by
  have hmask : ∀ k < 11, (0x0FF : BitVec 11).getLsbD k = decide (k < 8) := by decide
  have hdef : timerHigh w t = (t &&& (0x0FF : BitVec 11)) ||| (w.setWidth 11 <<< 8) := rfl
  apply BitVec.eq_of_getLsbD_eq
  intro k hk
  rw [getLsbD_ofNat_bytes (Nat.mod_lt _ (by decide)) hk, hdef, BitVec.getLsbD_or, BitVec.getLsbD_and, hmask k hk,
    BitVec.getLsbD_shiftLeft, BitVec.getLsbD_setWidth, decide_eq_true hk, Bool.true_and]
  by_cases h8 : k < 8
  · rw [if_pos h8, decide_eq_true h8, Bool.and_true, Bool.not_true, Bool.false_and, Bool.or_false,
      Nat.testBit_mod_two_pow (j := 8), decide_eq_true h8, Bool.true_and, BitVec.testBit_toNat]
  · rw [if_neg h8, decide_eq_false h8, Bool.and_false, Bool.false_or, Bool.not_false, Bool.true_and,
      Nat.testBit_mod_two_pow (j := 3), decide_eq_true (by omega), decide_eq_true (by omega), BitVec.testBit_toNat]

-- Register writes

theorem pulseConfig_eq (w : Byte) (p : Pulse) : pulseConfig w p = { p with
    duty := w.extractLsb' 6 2, halt := w.getLsbD 5, cvol := w.getLsbD 4, vol := w.extractLsb' 0 4 } := by
  rw [pulseConfig, BitVec.setWidth_ushiftRight_eq_extractLsb, setWidth_eq_extractLsb'_zero]

theorem pulseSweep_eq (w : Byte) (p : Pulse) : pulseSweep w p = { p with
    swEn := w.getLsbD 7, swPeriod := w.extractLsb' 4 3, swNeg := w.getLsbD 3, swShift := w.extractLsb' 0 3,
    swReload := true } := by
  rw [pulseSweep, BitVec.setWidth_ushiftRight_eq_extractLsb, setWidth_eq_extractLsb'_zero]

/-- A write of an audio register, the strobe's address left out (R46). -/
theorem busWrite_apuReg {a : Word} {s : State} (w : Byte) (hook : s.ioHook = true)
    (h : 0x4000 ≤ a.toNat ∧ a.toNat ≤ 0x4017 ∧ a.toNat ≠ 0x4014 ∧ a.toNat ≠ 0x4016) :
    busWrite a w s = .ok () { s with apu := apuWrite (ioReg a) w s.apu } := by
  obtain ⟨h1, h2, hcopy, hstrobe⟩ := h
  have hne : ioReg a ≠ .strobe ∧ ∀ r, ioReg a ≠ .disk r := by
    unfold ioReg
    split <;> simp <;> omega
  rw [busWrite_ioReg w hook h1 (by omega) hcopy]
  cases hr : ioReg a
  case strobe => exact absurd hr hne.1
  case disk r => exact absurd hr (hne.2 r)
  all_goals rfl

/-- Settles O37: each address selects its register, whose fields are those that the byte is cut into. -/
theorem audioRegisterWrites : Obligations.AudioRegisterWrites := by
  refine ⟨fun s w hook => ⟨?_, ?_, ?_, ?_, ?_, ?_, ?_, ?_⟩, fun s w hook => ⟨?_, ?_, ?_, ?_, ?_, ?_, ?_⟩⟩
  -- Fifteen addresses and one argument: the register at the address, then its write rule in the fields of the byte.
  all_goals
    rw [busWrite_apuReg w hook (by decide)]
    simp only [ioReg, BitVec.reduceToNat]
    simp only [apuWrite, pulseConfig_eq, pulseSweep_eq, pulseTimerLow, pulseTimerHigh, triConfig, triTimerLow,
      triTimerHigh, noiseConfig, noisePeriod, noiseLength, frameMode, timerLow_eq, timerHigh_eq,
      setWidth_eq_extractLsb'_zero]

-- Lengths and enables

theorem lenTable_getElem? : ∀ k < 32, lenTable[k]? = some (lenTable.getD k 0 % 256) := by decide

theorem channelStatus_bits (q : Apu) :
    (channelStatus q).getLsbD 0 = (q.p1.len != 0) ∧ (channelStatus q).getLsbD 1 = (q.p2.len != 0) ∧
    (channelStatus q).getLsbD 2 = (q.tri.len != 0) ∧ (channelStatus q).getLsbD 3 = (q.noi.len != 0) ∧
    (channelStatus q).toNat < 16 := by
  unfold channelStatus
  generalize (q.p1.len != 0) = p1; generalize (q.p2.len != 0) = p2
  generalize (q.tri.len != 0) = tri; generalize (q.noi.len != 0) = noi
  revert p1 p2 tri noi; decide

/-- Settles O38: the table has 32 entries below 256; the write is `channelEnable`, the read `channelStatus_bits`. -/
theorem lengthTableAndChannelStatus : Obligations.LengthTableAndChannelStatus := by
  refine ⟨fun w => ?_, fun s w hook => ?_, fun s hook => ⟨channelStatus s.apu, ?_, ?_⟩⟩
  · have hw := w.isLt
    rw [lengthOf, BitVec.toNat_ofNat]
    exact lenTable_getElem? (w.toNat / 8) (by omega)
  · exact busWrite_apuReg w hook (by decide)
  · exact busRead_ioReg hook (by decide) (by decide)
  · have hne : ∀ len : Byte, decide (len ≠ 0) = (len != 0) := fun len => by rw [bne, beq_eq_decide, decide_not]
    simp only [hne]
    exact channelStatus_bits s.apu

-- The sweep

theorem sweepUpdates_iff {first : Bool} {p : Pulse} : sweepUpdates first p = true ↔
    p.swDiv = 0 ∧ p.swEn = true ∧ p.swShift ≠ 0 ∧ 8 ≤ p.timer.toNat ∧ sweepTarget first p ≤ 0x7FF := by
  simp [sweepUpdates, and_assoc]

/-- A sweep that shifts takes away at most half of the period (R355). -/
theorem sweepTarget_nonneg (first : Bool) {p : Pulse} (hshift : p.swShift ≠ 0) (ht : 8 ≤ p.timer.toNat) :
    0 ≤ sweepTarget first p := by
  have hpos : p.swShift.toNat ≠ 0 := fun h => hshift (BitVec.eq_of_toNat_eq h)
  have hpow : 2 ^ 1 ≤ 2 ^ p.swShift.toNat := Nat.pow_le_pow_right (by decide) (by omega)
  have hhalf : (p.timer.toNat : Int) / 2 ^ p.swShift.toNat ≤ p.timer.toNat / 2 := by
    exact_mod_cast Nat.div_le_div_left (a := p.timer.toNat) hpow (by decide)
  have hchange : (0 : Int) ≤ p.timer.toNat / 2 ^ p.swShift.toNat :=
    Int.ediv_nonneg (Int.natCast_nonneg _) (Int.pow_nonneg (by decide))
  unfold sweepTarget
  dsimp only
  split
  · split <;> omega
  · omega

/-- The three fields that a sweep clock may change (R355). -/
theorem clockSweep_eq (first : Bool) (p : Pulse) : clockSweep first p = { p with
    timer := if sweepUpdates first p then BitVec.ofInt 11 (sweepTarget first p) else p.timer,
    swDiv := if p.swDiv = 0 ∨ p.swReload = true then p.swPeriod else p.swDiv - 1,
    swReload := if p.swDiv = 0 ∨ p.swReload = true then false else p.swReload } := by
  unfold clockSweep
  simp only [Bool.or_eq_true, decide_eq_true_eq]
  split <;> split <;> rfl

/-- The period after a sweep clock as an integer: an update that happens fits in 11 bits (R355). -/
theorem clockSweep_timer (first : Bool) (p : Pulse) : ((clockSweep first p).timer.toNat : Int) =
    if sweepUpdates first p then sweepTarget first p else (p.timer.toNat : Int) := by
  rw [clockSweep_eq]
  dsimp only
  by_cases h : sweepUpdates first p = true
  · rw [if_pos h, if_pos h]
    obtain ⟨-, -, hshift, ht, hmax⟩ := sweepUpdates_iff.1 h
    have hnonneg := sweepTarget_nonneg first hshift ht
    rw [BitVec.toNat_ofInt]
    omega
  · rw [if_neg h, if_neg h]

/-- Settles O39: `clockSweep_timer` with the condition written out, and `clockSweep_eq`. -/
theorem sweepNeverWrapsThePeriod : Obligations.SweepNeverWrapsThePeriod := by
  intro first p t change target r
  refine ⟨(clockSweep_timer first p).trans ?_, ?_⟩
  · exact ite_congr (propext sweepUpdates_iff) (fun _ => rfl) fun _ => rfl
  · simp only [r, clockSweep_eq]

-- Output triples

theorem pulseTone_silent (clock : Nat) {p : Pulse} (h : p.enabled = false ∨ p.len = 0) :
    pulseTone clock p = { freq := 0, vol := 0, shape := .duty p.duty } := by
  obtain h | h := h <;> simp [pulseTone, tone, h]

theorem triangleTone_silent (clock : Nat) {t : Triangle} (h : t.enabled = false ∨ t.len = 0 ∨ t.lin = 0) :
    triangleTone clock t = { freq := 0, vol := 0, shape := .plain } := by
  obtain h | h | h := h <;> simp [triangleTone, tone, h]

theorem noiseTone_silent (clock : Nat) {q : Noise} (h : q.enabled = false ∨ q.len = 0) :
    noiseTone clock q = { freq := 0, vol := 0, shape := .mode q.mode } := by
  obtain h | h := h <;> simp [noiseTone, tone, h]

theorem pulseTone_sounding (clock : Nat) {p : Pulse} (hon : p.enabled = true) (hlen : p.len ≠ 0) :
    pulseTone clock p = {
      freq := (clock : Rat) / ((16 * (p.timer.toNat + 1) : Nat) : Rat),
      vol := if p.cvol then p.vol else p.envDecay, shape := .duty p.duty } :=
  if_pos (by simpa [hon] using hlen)

theorem triangleTone_sounding (clock : Nat) {t : Triangle} (hon : t.enabled = true) (hlen : t.len ≠ 0)
    (hlin : t.lin ≠ 0) : triangleTone clock t = {
      freq := (clock : Rat) / ((32 * (t.timer.toNat + 1) : Nat) : Rat), vol := 15, shape := .plain } :=
  if_pos (by simpa [hon] using And.intro hlen hlin)

theorem noiseTone_sounding (clock : Nat) {q : Noise} (hon : q.enabled = true) (hlen : q.len ≠ 0) :
    noiseTone clock q = {
      freq := (clock : Rat) / ((noiseTable.getD q.period.toNat 0 : Nat) : Rat),
      vol := if q.cvol then q.vol else q.envDecay, shape := .mode q.mode } :=
  if_pos (by simpa [hon] using hlen)

/-- A frequency times its period in clocks is the clock. -/
theorem clock_div_mul_cancel (clock : Nat) {n : Nat} (h : n ≠ 0) : (clock : Rat) / (n : Rat) * (n : Rat) = clock :=
  Rat.div_mul_cancel (mt Rat.natCast_eq_zero_iff.1 h)

theorem noiseTable_getElem? :
    ∀ k < 16, noiseTable[k]? = some (noiseTable.getD k 0) ∧ noiseTable.getD k 0 ≠ 0 := by decide

/-- Settles O41: each channel by its silent and its sounding triple; no period is 0. -/
theorem silencedChannelsEmitZero : Obligations.SilencedChannelsEmitZero := by
  refine ⟨fun clock p => ⟨pulseTone_silent clock, fun hon hlen => ?_⟩,
    fun clock t => ⟨triangleTone_silent clock, fun hon hlen hlin => ?_⟩,
    fun clock q => ⟨noiseTone_silent clock, fun hon hlen => ?_⟩⟩
  · rw [pulseTone_sounding clock hon hlen]
    exact ⟨clock_div_mul_cancel clock (by omega), rfl, rfl⟩
  · rw [triangleTone_sounding clock hon hlen hlin]
    exact ⟨clock_div_mul_cancel clock (by omega), rfl, rfl⟩
  · obtain ⟨hentry, hne⟩ := noiseTable_getElem? q.period.toNat q.period.isLt
    rw [noiseTone_sounding clock hon hlen]
    exact ⟨_, hentry, clock_div_mul_cancel clock hne, rfl, rfl⟩

-- The sequencer

/-- A length counter over a step: only a step of the half clock counts it down (R351, R352). -/
theorem ite_clockLength (half : Prop) [Decidable half] (halt : Bool) (len : Byte) :
    (if half then clockLength halt len else len) = if half ∧ len ≠ 0 ∧ halt = false then len - 1 else len := by
  have hlength : clockLength halt len = if len ≠ 0 ∧ halt = false then len - 1 else len := by simp [clockLength]
  rw [hlength]
  by_cases h : half
  · simp only [h, true_and, if_true]
  · simp only [h, false_and, if_false]

/-- The envelope after a clock, field by field (R353). -/
theorem clockEnvelope_eq (vol : BitVec 4) (loop : Bool) (e : Envelope) : clockEnvelope vol loop e = {
    start := false,
    div := if e.start ∨ e.div = 0 then vol else e.div - 1,
    decay := if e.start then 15 else if e.div ≠ 0 then e.decay
      else if e.decay ≠ 0 then e.decay - 1 else if loop then 15 else 0 } := by
  have hdecay : (if e.decay != 0 then e.decay - 1 else if loop then 15 else e.decay) =
      if e.decay ≠ 0 then e.decay - 1 else if loop then 15 else 0 := by
    by_cases h : e.decay = 0
    · simp [h]
    · rw [if_pos (bne_iff_ne.2 h), if_pos h]
  unfold clockEnvelope
  rw [hdecay]
  cases hstart : e.start
  · by_cases hdiv : e.div = 0
    · simp [hdiv]
    · simp only [hdiv, or_self, if_false, Bool.false_eq_true, ne_eq, not_false_eq_true, if_true]
  · simp only [true_or, if_true]

theorem clockLinear_eq (t : Triangle) : clockLinear t = { t with
    lin := if t.linReload then t.linLoad else if t.lin ≠ 0 then t.lin - 1 else 0,
    linReload := t.linReload && t.ctrl } := by
  unfold clockLinear
  by_cases h : t.lin = 0
  · simp [h]
  · simp only [bne_iff_ne.2 h, if_pos h, if_true]

/-- A pulse generator after a sequencer step; `half` says that the step clocks lengths and sweeps (R351). -/
def pulseStep (half : Prop) [Decidable half] (first : Bool) (p : Pulse) : Pulse :=
  if half then clockSweep first { clockPulseEnvelope p with len := clockLength p.halt p.len }
  else clockPulseEnvelope p

/-- The sweep, the length counter and the envelope read and change fields of their own, so each does what it does to
the generator before the step. -/
theorem pulseStep_eq (half : Prop) [Decidable half] (first : Bool) (p : Pulse) : pulseStep half first p =
    let sweep := if half then clockSweep first p else p
    { p with
      len := if half ∧ p.len ≠ 0 ∧ p.halt = false then p.len - 1 else p.len,
      envStart := false,
      envDiv := if p.envStart ∨ p.envDiv = 0 then p.vol else p.envDiv - 1,
      envDecay := if p.envStart then 15 else if p.envDiv ≠ 0 then p.envDecay
        else if p.envDecay ≠ 0 then p.envDecay - 1 else if p.halt then 15 else 0,
      timer := sweep.timer, swDiv := sweep.swDiv, swReload := sweep.swReload } := by
  rw [← ite_clockLength]
  unfold pulseStep clockPulseEnvelope
  rw [clockEnvelope_eq]
  by_cases h : half
  · simp only [if_pos h, clockSweep_eq]
    rfl
  · simp only [if_neg h]

theorem clockNoiseEnvelope_eq (q : Noise) : clockNoiseEnvelope q = { q with
    envStart := false,
    envDiv := if q.envStart ∨ q.envDiv = 0 then q.vol else q.envDiv - 1,
    envDecay := if q.envStart then 15 else if q.envDiv ≠ 0 then q.envDecay
      else if q.envDecay ≠ 0 then q.envDecay - 1 else if q.halt then 15 else 0 } := by
  rw [clockNoiseEnvelope, clockEnvelope_eq]

/-- A sequencer step, generator by generator; steps 0 and 2 are those of the half clock (R351). -/
theorem sequencerStep_eq (q : Apu) : sequencerStep q =
    let half := q.fsStep = 0 ∨ q.fsStep = 2
    { q with
      p1 := pulseStep half true q.p1, p2 := pulseStep half false q.p2,
      tri := { clockLinear q.tri with len := if half then clockLength q.tri.ctrl q.tri.len else q.tri.len },
      noi := { clockNoiseEnvelope q.noi with len := if half then clockLength q.noi.halt q.noi.len else q.noi.len },
      fsStep := (q.fsStep + 1) % (if q.fsMode then 5 else 4) } := by
  unfold sequencerStep pulseStep
  by_cases h : q.fsStep = 0 ∨ q.fsStep = 2
  · simp only [if_pos h]
    rfl
  · simp only [if_neg h]
    rfl

theorem apuStep_apu_below {n : Nat} {s : State} (h : s.apu.fsDiv + n < s.cfg.apuFrameDivider) :
    (apuStep n s).apu = { s.apu with fsDiv := s.apu.fsDiv + n } := if_neg (Nat.not_le.2 h)

theorem apuStep_apu_reached {n : Nat} {s : State} (h : s.cfg.apuFrameDivider ≤ s.apu.fsDiv + n) :
    (apuStep n s).apu = sequencerStep { s.apu with fsDiv := s.apu.fsDiv + n - s.cfg.apuFrameDivider } := if_pos h

/-- Settles O40: the divider on both sides of its threshold, then a step by `sequencerStep_eq` and its units' lemmas. -/
theorem audioStepAndSequencer : Obligations.AudioStepAndSequencer := by
  refine ⟨⟨fun _ _ => rfl, fun _ _ => rfl, fun n s => ⟨apuStep_apu_below, apuStep_apu_reached, rfl⟩⟩,
    fun q => ?step, fun clock p h => ?pulse, fun clock t h => ?triangle, fun clock q h => ?noise⟩
  case step =>
    rw [sequencerStep_eq]
    dsimp only
    rw [pulseStep_eq, pulseStep_eq, clockLinear_eq, clockNoiseEnvelope_eq, ite_clockLength, ite_clockLength]
    exact ⟨rfl, rfl, rfl, rfl, rfl, rfl, rfl, rfl, rfl, rfl, rfl, rfl, rfl, rfl, rfl, rfl, rfl, rfl, rfl⟩
  case pulse => rw [pulseTone_silent clock (.inr h)]; exact ⟨rfl, rfl⟩
  case triangle => rw [triangleTone_silent clock (.inr (.inl h))]; exact ⟨rfl, rfl⟩
  case noise => rw [noiseTone_silent clock (.inr h)]; exact ⟨rfl, rfl⟩

-- Controller ports

/-- One place to the right, with a one from the top (R372). -/
theorem shiftButtons_eq (w : Byte) : shiftButtons w = BitVec.ofNat 8 (w.toNat / 2 + 128) :=
  congrArg Shifted.r (ror8_eq w true)

theorem getLsbD_shiftButtons (w : Byte) (k : Nat) :
    (shiftButtons w).getLsbD k = if k = 7 then true else w.getLsbD (k + 1) := by
  rw [shiftButtons, show (0x80 : Byte) = BitVec.twoPow 8 7 from rfl, getLsbD_or_bit _ (by decide),
    BitVec.getLsbD_ushiftRight, Nat.add_comm]
  by_cases h7 : k = 7
  · rw [if_pos h7, decide_eq_true h7, Bool.or_true]
  · rw [if_neg h7, decide_eq_false h7, Bool.or_false]

/-- After `n` reads the register's bit `k` is the button `n + k`, or one of the ones from the top (R372). -/
theorem getLsbD_repeat_shiftButtons (w : Byte) (n : Nat) {k : Nat} (hk : k < 8) :
    (Nat.repeat shiftButtons n w).getLsbD k = if n + k < 8 then w.getLsbD (n + k) else true := by
  induction n generalizing k with
  | zero => rw [Nat.zero_add, if_pos hk, Nat.repeat]
  | succ n ih =>
    rw [Nat.repeat, getLsbD_shiftButtons]
    by_cases h7 : k = 7
    · rw [if_pos h7, if_neg (by omega)]
    · rw [if_neg h7, ih (by omega), ← Nat.add_assoc, Nat.add_right_comm]

theorem bitByte_getLsbD (w : Byte) (k : Nat) : bitByte (w.getLsbD k) = BitVec.ofNat 8 (w.toNat / 2 ^ k % 2) := by
  rw [bitByte, ← BitVec.testBit_toNat, Nat.toNat_testBit]

theorem bitByte_getLsbD_zero (w : Byte) : bitByte (w.getLsbD 0) = BitVec.ofNat 8 (w.toNat % 2) := by
  rw [bitByte_getLsbD, Nat.pow_zero, Nat.div_one]

theorem controllerRead_strobed {s : State} (h : s.ctl.strobe = true) :
    controllerRead0 s = .ok (bitByte (s.buttons0.getLsbD 0)) s ∧
    controllerRead1 s = .ok (bitByte (s.buttons1.getLsbD 0)) s := ⟨if_pos h, if_pos h⟩

theorem controllerRead_shifts {s : State} (h : s.ctl.strobe = false) :
    controllerRead0 s = .ok (bitByte (s.ctl.shift0.getLsbD 0))
      { s with ctl := { s.ctl with shift0 := shiftButtons s.ctl.shift0 } } ∧
    controllerRead1 s = .ok (bitByte (s.ctl.shift1.getLsbD 0))
      { s with ctl := { s.ctl with shift1 := shiftButtons s.ctl.shift1 } } :=
  ⟨if_neg (by simp [h]), if_neg (by simp [h])⟩

/-- The state after both strobe writes and `n` reads of controller 0 (R371, R372). -/
def readOut (s : State) (n : Nat) : State :=
  { s with ctl := { strobe := false, shift0 := Nat.repeat shiftButtons n s.buttons0, shift1 := s.buttons1 } }

theorem controllerRead0_readOut (s : State) (n : Nat) : controllerRead0 (readOut s n) =
    .ok (if n < 8 then BitVec.ofNat 8 (s.buttons0.toNat / 2 ^ n % 2) else 1) (readOut s (n + 1)) := by
  rw [(controllerRead_shifts rfl).1]
  have hbit : ((readOut s n).ctl.shift0).getLsbD 0 = if n < 8 then s.buttons0.getLsbD n else true :=
    getLsbD_repeat_shiftButtons s.buttons0 n (by decide)
  have hnext : shiftButtons (readOut s n).ctl.shift0 = (readOut s (n + 1)).ctl.shift0 := rfl
  rw [hbit, hnext, apply_ite bitByte, bitByte_getLsbD]
  rfl

/-- Settles O42: a port is its controller's read, and `controllerRead0_readOut` gives each read after a strobe. -/
theorem controllersReadOutInOrder : Obligations.ControllersReadOutInOrder := by
  intro s hook
  have hwrite : ∀ (u : State) (w : Byte), u.ioHook = true → busWrite 0x4016 w u = .ok () (strobeWrite w u) :=
    fun u w h => busWrite_ioReg w h (by decide) (by decide) (by decide)
  have hread0 : ∀ u : State, u.ioHook = true → busRead 0x4016 u = controllerRead0 u :=
    fun u h => busRead_ioReg h (by decide) (by decide)
  have hread1 : busRead 0x4017 s = controllerRead1 s := busRead_ioReg hook (by decide) (by decide)
  refine ⟨fun w => hwrite s w hook, fun h => ?_, fun h => ?_, strobeWrite 1 s, readOut s, hwrite s 1 hook,
    hwrite (strobeWrite 1 s) 0 hook, fun n => ?_⟩
  · obtain ⟨h0, h1⟩ := controllerRead_strobed h
    rw [hread0 s hook, hread1, h0, h1, bitByte_getLsbD_zero, bitByte_getLsbD_zero]
    exact ⟨rfl, rfl⟩
  · obtain ⟨h0, h1⟩ := controllerRead_shifts h
    rw [hread0 s hook, hread1, h0, h1, bitByte_getLsbD_zero, bitByte_getLsbD_zero, shiftButtons_eq, shiftButtons_eq]
    exact ⟨rfl, rfl⟩
  · exact (hread0 (readOut s n) hook).trans (controllerRead0_readOut s n)

end Sys2Proof.Machine
end

section
/-! The disk system (46_disk_system.md): the I/O window with and without it, its registers, timer and byte latency, and
the block decoder. -/

namespace Sys2Proof.Machine

-- The window without the Disk System

theorem ioRead_of_absentDisk {a : Word} {s : State} (hd : s.cfg.diskPresent = false) (ha : 0x4020 ≤ a.toNat) :
    ioRead (ioReg a) s = freeRead s := by
  obtain ⟨q, hq⟩ | hq := ioReg_of_high ha <;> rw [hq]
  · exact if_neg (by simp [hd])
  · rfl

theorem ioWrite_of_absentDisk {a : Word} {s : State} (hd : s.cfg.diskPresent = false) (ha : 0x4020 ≤ a.toNat)
    (w : Byte) : ioWrite (ioReg a) w s = s := by
  obtain ⟨q, hq⟩ | hq := ioReg_of_high ha <;> rw [hq]
  · exact if_neg (by simp [hd])
  · rfl

theorem diskTick_of_absentDisk {s : State} (hd : s.cfg.diskPresent = false) : diskTick s = s := if_neg (by simp [hd])

theorem irqLine_of_absentDisk {s : State} (hd : s.cfg.diskPresent = false) : irqLine s = false := by
  rw [irqLine, hd, Bool.false_and]

/-- Settles O43: from `$4020` on there are only disk registers and unassigned ones, and both answer as unassigned. -/
theorem absentDiskDoesNothing : Obligations.AbsentDiskDoesNothing := by
  refine fun s hd => ⟨diskTick_of_absentDisk hd, irqLine_of_absentDisk hd, fun hook a w h1 h2 => ⟨?_, ?_⟩⟩
  · rw [busWrite_ioReg w hook (by omega) h2 (by omega), ioWrite_of_absentDisk hd h1]
  · rw [busRead_ioReg hook (by omega) h2, ioRead_of_absentDisk hd h1]
    rfl

-- Registers

/-- The disk registers lie within `$4020` to `$41FF` (R46). -/
theorem ioReg_disk_range {a : Word} {r : DiskReg} (h : ioReg a = .disk r) :
    0x4020 ≤ a.toNat ∧ a.toNat ≤ 0x41FF := by
  unfold ioReg at h
  split at h <;> cases h <;> omega

theorem busWrite_diskReg {a : Word} {r : DiskReg} {s : State} (w : Byte) (hook : s.ioHook = true)
    (hd : s.cfg.diskPresent = true) (hr : ioReg a = .disk r) : busWrite a w s = .ok () (diskRegWrite r w s) := by
  obtain ⟨h1, h2⟩ := ioReg_disk_range hr
  rw [busWrite_ioReg w hook (by omega) h2 (by omega), hr, ioWrite, if_pos hd]

theorem busRead_diskReg {a : Word} {r : DiskReg} {s : State} (hook : s.ioHook = true)
    (hd : s.cfg.diskPresent = true) (hr : ioReg a = .disk r) : busRead a s = diskRegRead r s := by
  obtain ⟨h1, h2⟩ := ioReg_disk_range hr
  rw [busRead_ioReg hook (by omega) h2, hr, ioRead, if_pos hd]

theorem joinBytes_eq_ofNat (hi lo : Byte) : joinBytes hi lo = BitVec.ofNat 16 (hi.toNat * 256 + lo.toNat) := by
  rw [← joinBytes_toNat, BitVec.ofNat_toNat, BitVec.setWidth_eq]

/-- The motor is off or reset is held (R388): the condition that resets the decoder and makes the drive not ready. -/
theorem motorOff_or_reset_iff (w : Byte) :
    (!w.getLsbD 0 || w.getLsbD 1) = true ↔ w.getLsbD 0 = false ∨ w.getLsbD 1 = true := by
  rw [Bool.or_eq_true, Bool.not_eq_true']

theorem diskStatus_eq (q : Disk) : diskStatus q = BitVec.ofNat 8 (q.timerFlag.toNat + 2 * q.xferFlag.toNat) := by
  rw [diskStatus, bitAt, bitAt, Nat.pow_zero, Nat.mul_one, Nat.pow_one, Nat.mul_comm 2]

theorem driveStatus_eq (q : Disk) :
    driveStatus q = if q.ctrl.getLsbD 0 = false ∨ q.ctrl.getLsbD 1 = true then 6 else 4 := by
  unfold driveStatus
  by_cases h : q.ctrl.getLsbD 0 = false ∨ q.ctrl.getLsbD 1 = true
  · rw [if_pos h, (motorOff_or_reset_iff _).2 h]
    rfl
  · rw [if_neg h, Bool.eq_false_iff.2 (mt (motorOff_or_reset_iff _).1 h)]
    rfl

/-- Settles O44: each address selects its register, whose rule in `diskRegWrite` or `diskRegRead` is the statement's. -/
theorem diskRegisterAccesses : Obligations.DiskRegisterAccesses := by
  refine ⟨fun s w hook hd => ?_, fun s hook hd => ?_⟩
  · have hwrite {a : Word} (r : DiskReg) (hr : ioReg a = .disk r) : busWrite a w s = .ok () (diskRegWrite r w s) :=
      busWrite_diskReg w hook hd hr
    refine ⟨?low, ?high, hwrite .timerControl rfl, hwrite .ioEnable rfl, hwrite .writeData rfl,
      hwrite .external rfl, ?control, fun a h1 h2 => ?readOnly⟩
    case low =>
      rw [← highByte_toNat, ← joinBytes_eq_ofNat]
      exact hwrite .timerLow rfl
    case high =>
      rw [← lowByte_toNat, ← joinBytes_eq_ofNat]
      exact hwrite .timerHigh rfl
    case control =>
      simp only [← motorOff_or_reset_iff]
      exact hwrite .control rfl
    case readOnly =>
      rw [busWrite_ioReg w hook (by omega) (by omega) (by omega), ioWrite_of_readOnly (ioReg_readOnly (by omega))]
  · have hread {a : Word} (r : DiskReg) (hr : ioReg a = .disk r) : busRead a s = diskRegRead r s :=
      busRead_diskReg hook hd hr
    rw [← diskStatus_eq, ← driveStatus_eq]
    exact ⟨hread .status rfl, hread .readData rfl, hread .driveStatus rfl, hread .externalInput rfl⟩

-- Timer and byte latency

theorem timerTick_disabled {q : Disk} (h : q.tEnable = false) : timerTick q = q := if_neg (by simp [h])

theorem timerTick_counting {q : Disk} (h : q.tEnable = true) (hc : q.tCounter ≠ 0) :
    timerTick q = { q with tCounter := q.tCounter - 1 } := by
  rw [timerTick, if_pos h, if_neg hc]

theorem timerTick_reload {q : Disk} (h : q.tEnable = true) (hc : q.tCounter = 0) (hr : q.tRepeat = true) :
    timerTick q = { q with timerFlag := true, tCounter := q.tReload } := by
  rw [timerTick, if_pos h, if_pos hc, if_pos hr]

theorem timerTick_expire {q : Disk} (h : q.tEnable = true) (hc : q.tCounter = 0) (hr : q.tRepeat = false) :
    timerTick q = { q with timerFlag := true, tEnable := false } := by
  rw [timerTick, if_pos h, if_pos hc, if_neg (by simp [hr])]

theorem timerTick_timerFlag {q : Disk} (h : q.tEnable = true) (hc : q.tCounter = 0) :
    (timerTick q).timerFlag = true := by
  cases hr : q.tRepeat
  · rw [timerTick_expire h hc hr]
  · rw [timerTick_reload h hc hr]

/-- Until the counter reaches 0, `n` ticks only take `n` from it (R401). -/
theorem repeat_timerTick {q : Disk} (h : q.tEnable = true) {n : Nat} (hn : n ≤ q.tCounter.toNat) :
    Nat.repeat timerTick n q = { q with tCounter := q.tCounter - BitVec.ofNat 16 n } := by
  induction n with
  | zero => rw [Nat.repeat, BitVec.sub_zero]
  | succ n ih =>
    have hc : q.tCounter - BitVec.ofNat 16 n ≠ 0 := by bv_omega
    have hsub : q.tCounter - BitVec.ofNat 16 n - 1 = q.tCounter - BitVec.ofNat 16 (n + 1) := by bv_omega
    have hstep := timerTick_counting (q := { q with tCounter := q.tCounter - BitVec.ofNat 16 n }) h hc
    rw [Nat.repeat, ih (Nat.le_of_succ_le hn), hstep, hsub]

theorem repeat_timerTick_counter {q : Disk} (h : q.tEnable = true) :
    Nat.repeat timerTick q.tCounter.toNat q = { q with tCounter := 0 } := by
  rw [repeat_timerTick h (Nat.le_refl _), BitVec.ofNat_toNat, BitVec.setWidth_eq, BitVec.sub_self]
  rfl

theorem streaming_not_waiting_iff (q : Disk) : (streaming q && !q.xferFlag) = true ↔
    q.ctrl.getLsbD 0 = true ∧ q.ctrl.getLsbD 1 = false ∧ q.ctrl.getLsbD 2 = true ∧ q.xferFlag = false := by
  simp only [streaming, Bool.and_eq_true, Bool.not_eq_true', and_assoc]

theorem latencyTick_still (cfg : Params) {q : Disk} (h : ¬ (streaming q && !q.xferFlag) = true) :
    latencyTick cfg q = q := if_neg h

theorem latencyTick_counting (cfg : Params) {q : Disk} (h : (streaming q && !q.xferFlag) = true) (hl : 2 ≤ q.latency) :
    latencyTick cfg q = { q with latency := q.latency - 1 } :=
  (if_pos h).trans (if_neg (Nat.sub_ne_zero_of_lt hl))

theorem latencyTick_delivers (cfg : Params) {q : Disk} (h : (streaming q && !q.xferFlag) = true) (hl : q.latency ≤ 1) :
    latencyTick cfg q = deliverByte cfg { q with latency := 0 } := by
  have hzero : q.latency - 1 = 0 := Nat.sub_eq_zero_of_le hl
  rw [latencyTick, if_pos h, hzero]
  exact if_pos rfl

/-- Settles O45: the timer by its four cases and `repeat_timerTick`, the latency by its three. -/
theorem diskTickRunsTimerAndLatency : Obligations.DiskTickRunsTimerAndLatency := by
  refine ⟨⟨fun _ => timerTick_disabled, fun _ => timerTick_counting, fun _ => timerTick_reload,
    fun _ => timerTick_expire, fun q h hf => ⟨?_, ?_⟩⟩, fun s hd => if_pos hd, fun cfg q => ?_⟩
  · rw [repeat_timerTick_counter h]
    exact hf
  · rw [Nat.repeat, repeat_timerTick_counter h]
    exact timerTick_timerFlag h rfl
  · dsimp only
    rw [← streaming_not_waiting_iff]
    exact ⟨latencyTick_still cfg, latencyTick_counting cfg, latencyTick_delivers cfg⟩

-- The file table

theorem fileAt_cons_succ (f : DiskFile) (fs : List DiskFile) (k : Nat) : fileAt (f :: fs) (k + 1) = fileAt fs k := rfl

theorem fileAt_nil (k : Nat) : fileAt [] k = blankFile := rfl

theorem fileAt_setFile (fs : List DiskFile) (k j : Nat) (e : DiskFile) :
    fileAt (setFile fs k e) j = if j = k then e else fileAt fs j := by
  induction fs, k, e using setFile.induct generalizing j with
  | case1 e => cases j <;> rfl
  | case2 k e ih =>
    cases j with
    | zero => rfl
    | succ j =>
      rw [setFile, fileAt_cons_succ, ih, fileAt_nil, fileAt_nil]
      simp only [Nat.succ_eq_add_one, Nat.add_right_cancel_iff]
  | case3 f fs e => cases j <;> rfl
  | case4 f fs k e ih =>
    cases j with
    | zero => rfl
    | succ j =>
      rw [setFile, fileAt_cons_succ, ih, fileAt_cons_succ]
      simp only [Nat.succ_eq_add_one, Nat.add_right_cancel_iff]

/-- The offsets of block 3 exclude each other, so each field of the entry is written at its own (R400). -/
theorem parseField_eq (k : Nat) (w : Byte) (e : DiskFile) : parseField k w e =
    { id := if k = 2 then w else e.id,
      name := if 3 ≤ k ∧ k ≤ 10 then e.name.setIfInBounds (k - 3) w else e.name,
      address := if k = 11 then joinBytes (highByte e.address) w
        else if k = 12 then joinBytes w (lowByte e.address) else e.address,
      size := if k = 13 then joinBytes (highByte e.size) w
        else if k = 14 then joinBytes w (lowByte e.size) else e.size,
      type := if k = 15 then w else e.type } := by
  by_cases hk : k < 16
  · interval_cases k <;> rfl
  · unfold parseField
    simp (disch := omega) only [if_neg]

theorem parseField_name_getElem (k : Nat) (w : Byte) (e : DiskFile) {j : Nat} (hj : j < 8) :
    (parseField k w e).name[j] = if k = 3 + j then w else e.name[j] := by
  rw [parseField_eq]
  dsimp only
  by_cases hk : 3 ≤ k ∧ k ≤ 10
  · have hoff : k - 3 = j ↔ k = 3 + j := by omega
    simp only [if_pos hk, Vector.getElem_setIfInBounds, hoff]
  · simp only [if_neg hk, if_neg (show ¬ k = 3 + j by omega)]

/-- A word of which byte `k` is the low one and byte `k + 1` the high one, each stored as it comes (R400). -/
theorem storedWord_toNat (lo hi : Prop) [Decidable lo] [Decidable hi] (v : Word) (w : Byte) :
    (if lo then joinBytes (highByte v) w else if hi then joinBytes w (lowByte v) else v).toNat =
      if lo then v.toNat / 256 * 256 + w.toNat else if hi then w.toNat * 256 + v.toNat % 256 else v.toNat := by
  rw [apply_ite BitVec.toNat, apply_ite BitVec.toNat, joinBytes_toNat, joinBytes_toNat, highByte_toNat, lowByte_toNat]

-- One byte taken

theorem isCrc_iff {b : BlockState} :
    isCrc b = true ↔ b = .block1Crc ∨ b = .block2Crc ∨ b = .block3Crc ∨ b = .block4Crc := by
  cases b <;> decide

/-- The state takes a byte that the image does not hold: a checksum of an image without checksums (R399). -/
theorem not_fromImage_iff {cfg : Params} {q : Disk} : ¬ fromImage cfg q = true ↔
    (q.state = .block1Crc ∨ q.state = .block2Crc ∨ q.state = .block3Crc ∨ q.state = .block4Crc) ∧
      cfg.diskCrcInImage = false := by
  rw [← isCrc_iff, Bool.not_eq_true, fromImage, Bool.or_eq_false_iff, Bool.not_eq_false']

/-- The index after one byte (R396, R399). -/
def indexAfter (cfg : Params) (q : Disk) : Nat := if fromImage cfg q then imageIndex cfg q + 1 else q.index

/-- The disk after the action of the byte it takes, with the byte not yet counted. -/
def byteNoted (cfg : Params) (q : Disk) : Disk :=
  noteByte (nextByte cfg q) (if fromImage cfg q then imageTaken cfg q else q)

theorem noteByte_eq (w : Byte) (q : Disk) : noteByte w q = { q with
    fileTotal := if q.state = .block2 ∧ q.count = 1 then w.toNat else q.fileTotal,
    files := if q.state = .block3 then
      setFile q.files q.fileCur (parseField q.count w (fileAt q.files q.fileCur)) else q.files } := by
  obtain ⟨_, b⟩ := q
  cases b
  case block2 =>
    simp only [noteByte, true_and]
    split <;> rfl
  all_goals rfl

theorem byteNoted_eq (cfg : Params) (q : Disk) : byteNoted cfg q = { q with
    index := indexAfter cfg q,
    fileTotal := if q.state = .block2 ∧ q.count = 1 then (nextByte cfg q).toNat else q.fileTotal,
    files := if q.state = .block3 then
      setFile q.files q.fileCur (parseField q.count (nextByte cfg q) (fileAt q.files q.fileCur)) else q.files } := by
  have htaken : (if fromImage cfg q then imageTaken cfg q else q) = { q with index := indexAfter cfg q } := by
    unfold indexAfter
    split <;> rfl
  rw [byteNoted, htaken, noteByte_eq]

/-- Taking a byte does not change the length of its block: only block 4's depends on the table, which block 3 fills. -/
theorem blockLength_byteNoted (cfg : Params) (q : Disk) : blockLength (byteNoted cfg q) = blockLength q := by
  rw [byteNoted_eq]
  unfold blockLength
  cases q.state <;> simp

theorem takeByte_inside {cfg : Params} {q : Disk} (h : q.count + 1 < blockLength q) :
    takeByte cfg q = { byteNoted cfg q with count := q.count + 1 } := by
  have hcount : (byteNoted cfg q).count = q.count := by rw [byteNoted_eq]
  rw [← blockLength_byteNoted cfg, ← hcount] at h
  rw [← hcount]
  exact if_neg (Nat.not_le.2 h)

theorem takeByte_last {cfg : Params} {q : Disk} (h : blockLength q ≤ q.count + 1) :
    takeByte cfg q = nextBlock cfg { byteNoted cfg q with count := 0 } := by
  have hcount : (byteNoted cfg q).count = q.count := by rw [byteNoted_eq]
  rw [← blockLength_byteNoted cfg, ← hcount] at h
  exact if_pos h

-- The next block

/-- The stream starts over: no file, or the last one done (R398). -/
def Wraps (q : Disk) : Prop :=
  (q.state = .block2Crc ∧ q.fileTotal = 0) ∨ (q.state = .block4Crc ∧ q.fileTotal ≤ q.fileCur + 1)

/-- The order of the blocks where the stream does not start over (R398). -/
def followingBlock : BlockState → BlockState
  | .block1 => .block1Crc
  | .block1Crc => .block2
  | .block2 => .block2Crc
  | .block2Crc => .block3
  | .block3 => .block3Crc
  | .block3Crc => .block4
  | .block4 => .block4Crc
  | .block4Crc => .block3

theorem nextBlock_of_wraps (cfg : Params) {q : Disk} (h : Wraps q) :
    nextBlock cfg q = { q with state := .block1, index := cfg.diskStart, fileCur := 0 } := by
  unfold nextBlock
  obtain ⟨hs, hfiles⟩ | ⟨hs, hfiles⟩ := h <;> simp only [hs]
  · exact if_neg (by omega)
  · exact if_neg (by omega)

theorem nextBlock_of_not_wraps (cfg : Params) {q : Disk} (h : ¬ Wraps q) : nextBlock cfg q =
    { q with state := followingBlock q.state,
             fileCur := if q.state = .block4Crc then q.fileCur + 1 else q.fileCur } := by
  unfold nextBlock
  cases hs : q.state
  case block2Crc =>
    have hfiles : 0 < q.fileTotal := Nat.pos_of_ne_zero fun h0 => h (.inl ⟨hs, h0⟩)
    exact if_pos hfiles
  case block4Crc =>
    have hfiles : q.fileCur + 1 < q.fileTotal := Nat.lt_of_not_le fun hle => h (.inr ⟨hs, hle⟩)
    exact if_pos hfiles
  all_goals rfl

theorem nextBlock_frame (cfg : Params) (q : Disk) : nextBlock cfg q =
    { q with state := (nextBlock cfg q).state, index := (nextBlock cfg q).index,
             fileCur := (nextBlock cfg q).fileCur } := by
  by_cases h : Wraps q
  · rw [nextBlock_of_wraps cfg h]
  · rw [nextBlock_of_not_wraps cfg h]

/-- The file total and the table change by the byte's own action only, and the rest is the decoder's position. -/
theorem takeByte_eq (cfg : Params) (q : Disk) : takeByte cfg q =
    { q with state := (takeByte cfg q).state, index := (takeByte cfg q).index, count := (takeByte cfg q).count,
             fileCur := (takeByte cfg q).fileCur, fileTotal := (byteNoted cfg q).fileTotal,
             files := (byteNoted cfg q).files } := by
  by_cases h : q.count + 1 < blockLength q
  · rw [takeByte_inside h, byteNoted_eq]
  · rw [takeByte_last (Nat.le_of_not_lt h), nextBlock_frame, byteNoted_eq]

theorem takeByte_fileTotal (cfg : Params) (q : Disk) : (takeByte cfg q).fileTotal =
    if q.state = .block2 ∧ q.count = 1 then (nextByte cfg q).toNat else q.fileTotal := by
  rw [takeByte_eq, byteNoted_eq]

theorem takeByte_files (cfg : Params) (q : Disk) : (takeByte cfg q).files =
    if q.state = .block3 then
      setFile q.files q.fileCur (parseField q.count (nextByte cfg q) (fileAt q.files q.fileCur)) else q.files := by
  rw [takeByte_eq, byteNoted_eq]

/-- Whether the stream starts over is decided in states whose bytes have no action. -/
theorem wraps_byteNoted {cfg : Params} {q : Disk} : Wraps { byteNoted cfg q with count := 0 } ↔ Wraps q := by
  rw [byteNoted_eq]
  unfold Wraps
  cases q.state <;> simp

theorem takeByte_last_of_wraps {cfg : Params} {q : Disk} (h : blockLength q ≤ q.count + 1) (hw : Wraps q) :
    takeByte cfg q =
      { byteNoted cfg q with count := 0, state := .block1, index := cfg.diskStart, fileCur := 0 } := by
  rw [takeByte_last h, nextBlock_of_wraps cfg (wraps_byteNoted.2 hw)]

theorem takeByte_last_of_not_wraps {cfg : Params} {q : Disk} (h : blockLength q ≤ q.count + 1) (hw : ¬ Wraps q) :
    takeByte cfg q = { byteNoted cfg q with
      count := 0, state := followingBlock q.state,
      fileCur := if q.state = .block4Crc then q.fileCur + 1 else q.fileCur } := by
  rw [takeByte_last h, nextBlock_of_not_wraps cfg (mt wraps_byteNoted.1 hw), byteNoted_eq]

/-- In block 3 the byte's field of the current file's entry is written and no other entry changes (R400). -/
theorem fileAt_takeByte_block3 (cfg : Params) {q : Disk} (h : q.state = .block3) (j : Nat) :
    fileAt (takeByte cfg q).files j = if j = q.fileCur then
      parseField q.count (nextByte cfg q) (fileAt q.files q.fileCur) else fileAt q.files j := by
  rw [takeByte_files, if_pos h, fileAt_setFile]

/-- Settles O46: a byte inside a block, the last one with and without a wrap, and the table by `parseField_eq`. -/
theorem diskDecoderWalksTheBlocks : Obligations.DiskDecoderWalksTheBlocks := by
  intro cfg q hlt
  dsimp only
  simp only [← not_fromImage_iff]
  have hmoved : (if ¬ fromImage cfg q = true then q.index else imageIndex cfg q + 1) = indexAfter cfg q :=
    ite_not ..
  refine ⟨?frame, ?byte, fun h => ?inside, fun h => ⟨?count, fun hw => ?wrap, fun hw => ?next⟩,
    takeByte_fileTotal cfg q, fun h => ?otherState, fun h => ?block3, rfl⟩
  case frame => rw [takeByte_eq]
  case byte => exact (ite_not ..).symm
  case inside =>
    rw [takeByte_inside h, byteNoted_eq]
    exact ⟨rfl, rfl, rfl, hmoved.symm⟩
  case count =>
    rw [takeByte_last h.ge, nextBlock_frame]
  case wrap =>
    rw [takeByte_last_of_wraps h.ge hw]
    exact ⟨rfl, rfl, rfl⟩
  case next =>
    rw [takeByte_last_of_not_wraps h.ge hw, byteNoted_eq]
    exact ⟨hmoved.symm, rfl, rfl⟩
  case otherState => rw [takeByte_files, if_neg h]
  case block3 =>
    have hentry := fileAt_takeByte_block3 cfg h
    refine ⟨fun j hj => by rw [hentry, if_neg hj], ?_⟩
    rw [hentry, if_pos rfl]
    refine ⟨?_, fun j hj => parseField_name_getElem _ _ _ hj, ?_, ?_, ?_⟩ <;> rw [parseField_eq]
    · exact storedWord_toNat ..
    · exact storedWord_toNat ..

end Sys2Proof.Machine
end

section
/-! The execution driver (47_execution_driver.md): interrupt entry at the head of an iteration (R422, R423), what each
end of an iteration is (R421), and the latch of a fatal condition (R433). -/

namespace Sys2Proof.Machine

open Sys2Proof.Forms

-- Interrupt entry

/-- Settles O16: both services are `enterInterrupt` with the break bit clear, which `enterInterrupt_entersHandler`
describes; the check chooses the NMI first. -/
theorem nmiAndIrqEntry : Obligations.NmiAndIrqEntry := by
  refine fun s hram => ⟨fun hnmi => ?nmi, fun hnmi hline hi => ?irq⟩
  case nmi =>
    have hserve : serviceInterrupts s = serviceNmi s := if_pos hnmi
    rw [hserve]
    exact ⟨enterInterrupt_entersHandler (by decide) (by decide) hram rfl, rfl, rfl⟩
  case irq =>
    have hserve : serviceInterrupts s = serviceIrq s := by simp [serviceInterrupts, hnmi, hline, hi]
    rw [hserve]
    exact ⟨enterInterrupt_entersHandler (by decide) (by decide) hram rfl, rfl, hnmi⟩

-- The ends of an iteration

theorem step_of_latched {s : State} {c : Fatal} (hf : s.fatal = some c) : step s = .fault (.halted c s) := by
  simp only [step, hf]

theorem step_of_refusedConfiguration {s : State} (hf : s.fatal = none) (hc : s.cfg.accepted = false) :
    step s = .refused .badConfiguration := by
  simp only [step, hf, hc, Bool.false_eq_true, if_false]

theorem step_of_fetch_stop {s t : State} {c : Fatal} (hf : s.fatal = none) (hc : s.cfg.accepted = true)
    (hfetch : fetchInstr (serviceInterrupts (hostTurn s)) = .stop c t) : step s = .fault (.fatal c (latch c t)) := by
  simp only [step, hf, hc, hfetch, if_true]

theorem step_of_exec_fault {s t : State} {i : Instr} {e : Fault} (hf : s.fatal = none) (hc : s.cfg.accepted = true)
    (hfetch : fetchInstr (serviceInterrupts (hostTurn s)) = .ok i t) (hexec : exec i t = .fault e) :
    step s = .fault e := by
  simp only [step, hf, hc, hfetch, hexec, if_true]

theorem step_of_exec_refused {s t : State} {i : Instr} {e : Refusal} (hf : s.fatal = none)
    (hc : s.cfg.accepted = true) (hfetch : fetchInstr (serviceInterrupts (hostTurn s)) = .ok i t)
    (hexec : exec i t = .refused e) : step s = .refused e := by
  simp only [step, hf, hc, hfetch, hexec, if_true]

/-- An iteration raises a fatal condition in its fetch or in its instruction, and only with the latch clear. -/
theorem step_fatal_cases {s t : State} {c : Fatal} (h : step s = .fault (.fatal c t)) :
    s.fatal = none ∧
      ((∃ u, fetchInstr (serviceInterrupts (hostTurn s)) = .stop c u ∧ t = latch c u) ∨
        ∃ i u, fetchInstr (serviceInterrupts (hostTurn s)) = .ok i u ∧ exec i u = .fault (.fatal c t)) := by
  cases hf : s.fatal with
  | some f =>
    rw [step_of_latched hf] at h
    cases h
  | none =>
    cases hc : s.cfg.accepted with
    | false =>
      rw [step_of_refusedConfiguration hf hc] at h
      cases h
    | true =>
      refine ⟨rfl, ?_⟩
      cases hfetch : fetchInstr (serviceInterrupts (hostTurn s)) with
      | stop f u =>
        rw [step_of_fetch_stop hf hc hfetch] at h
        cases h
        exact .inl ⟨u, rfl, rfl⟩
      | ok i u =>
        refine .inr ⟨i, u, rfl, ?_⟩
        cases hexec : exec i u with
        | next v =>
          rw [step_eq_next.2 ⟨hf, hc, i, u, v, hfetch, hexec, rfl⟩] at h
          cases h
        | fault e =>
          rw [step_of_exec_fault hf hc hfetch hexec] at h
          cases h
          rfl
        | refused e =>
          rw [step_of_exec_refused hf hc hfetch hexec] at h
          cases h

/-- Settles O6: `fetch_decode` over the bytes that `encode` gives, then the end of the iteration by that of the
instruction. -/
theorem stepRunsDecodedInstruction : Obligations.StepRunsDecodedInstruction := by
  refine ⟨?_, fun s t c hf hc hfetch => step_of_fetch_stop hf hc hfetch, fun _ => rfl, fun _ _ => rfl, fun _ => rfl,
    fun _ _ => rfl⟩
  intro s i hf hc hwf u hbytes
  have hdecode : decode (encode i) = .ok (i, []) := by
    rw [← List.append_nil (encode i), decodeOfEncodeIsInstruction i [] hwf]
  have hfetch : fetchInstr u = .ok i { u with pc := u.pc + BitVec.ofNat 16 (encode i).length } :=
    fetch_decode hdecode rfl hbytes
  cases hexec : exec i { u with pc := u.pc + BitVec.ofNat 16 (encode i).length } with
  | next t => exact step_eq_next.2 ⟨hf, hc, i, _, t, hfetch, hexec, rfl⟩
  | fault e => exact step_of_exec_fault hf hc hfetch hexec
  | refused e => exact step_of_exec_refused hf hc hfetch hexec

-- The latch

/-- The state that an operation ends in, completed or stopped. -/
def Result.final {α : Type} : Result α → State
  | .ok _ t => t
  | .stop _ t => t

/-- An operation run from `s` leaves the fatal latch to whoever stops, whether it completes or raises a condition
(R433). -/
def KeepsLatch {α : Type} (s : State) (r : Result α) : Prop := r.final.fatal = s.fatal

theorem KeepsLatch.andThen {α β : Type} {s : State} {r : Result α} {k : α → State → Result β}
    (hr : KeepsLatch s r) (hk : ∀ w t, KeepsLatch t (k w t)) : KeepsLatch s (r.andThen k) := by
  cases r with
  | ok w t => exact (hk w t).trans hr
  | stop f t => exact hr

theorem latch_fatal_of_none {s : State} (c : Fatal) (hs : s.fatal = none) : (latch c s).fatal = some c := by
  rw [latch_of_none c hs]

/-- So the outcome of an operation that stops with the latch clear has its condition in the latch. -/
theorem KeepsLatch.outcome_latches {s t : State} {r : Result Unit} {c : Fatal} (hr : KeepsLatch s r)
    (hs : s.fatal = none) (h : r.outcome = .fault (.fatal c t)) : t.fatal = some c := by
  obtain ⟨f, u, rfl, he⟩ := outcome_eq_fault.1 h
  cases he
  exact latch_fatal_of_none c (Eq.trans hr hs)

theorem Outer.fatal {s t : State} (h : Outer s t) : t.fatal = s.fatal := by
  obtain ⟨-, -, hfatal, -⟩ := h
  exact hfatal

theorem busRead_keepsLatch (a : Word) (s : State) : KeepsLatch s (busRead a s) := by
  cases h : busRead a s with
  | ok w t => exact (busRead_effect h).outer.fatal
  | stop f t => exact congrArg State.fatal (busRead_stop_state h)

theorem busWrite_keepsLatch (a : Word) (w : Byte) (s : State) : KeepsLatch s (busWrite a w s) := by
  cases h : busWrite a w s with
  | ok v t => exact (busWrite_effect h).outer.fatal
  | stop f t => exact busWrite_stop_fatal h

theorem fetchByte_keepsLatch (s : State) : KeepsLatch s (fetchByte s) :=
  (busRead_keepsLatch s.pc s).andThen fun _ _ => rfl

theorem fetchInstr_keepsLatch (s : State) : KeepsLatch s (fetchInstr s) := by
  refine (fetchByte_keepsLatch s).andThen fun op t => ?_
  split
  · rfl
  · exact (fetchByte_keepsLatch t).andThen fun _ _ => rfl
  · exact (fetchByte_keepsLatch t).andThen fun _ u => (fetchByte_keepsLatch u).andThen fun _ _ => rfl
  · rfl

theorem loadOperand_keepsLatch (o : Operand) (s : State) : KeepsLatch s (loadOperand o s) := by
  cases o with
  | acc => rfl
  | imm v => rfl
  | mem m => exact busRead_keepsLatch _ s

theorem readClass_keepsLatch (o : Operand) (base : Nat) {g : Byte → State → State} (hg : ∀ w u, RegsOnly u (g w u))
    (s : State) : KeepsLatch s (readClass o base g s) :=
  (loadOperand_keepsLatch o s).andThen fun w u => (hg w u).outer.fatal

theorem storeClass_keepsLatch (m : MemOperand) (base : Nat) (w : Byte) (s : State) :
    KeepsLatch s (storeClass m base w s) :=
  (busWrite_keepsLatch _ w s).andThen fun _ _ => rfl

theorem rmwClass_keepsLatch (m : MemOperand) (base : Nat) (f : Byte → Bool → Shifted) {g : Shifted → State → State}
    (hg : ∀ q u, RegsOnly u (g q u)) (s : State) : KeepsLatch s (rmwClass m base f g s) :=
  (busRead_keepsLatch _ s).andThen fun w u => (busWrite_keepsLatch _ _ u).andThen fun _ v =>
    (hg (f w u.c) v).outer.fatal

theorem jumpIndirect_keepsLatch (p : Word) (base : Nat) (s : State) : KeepsLatch s (jumpIndirect p base s) :=
  (busRead_keepsLatch p s).andThen fun _ u => (busRead_keepsLatch _ u).andThen fun _ _ => rfl

/-- With the latch clear, an instruction that raises a condition stops with that condition latched, whatever its
shape. -/
theorem exec_latches {i : Instr} {s t : State} {c : Fatal} (hs : s.fatal = none)
    (h : exec i s = .fault (.fatal c t)) : t.fatal = some c := by
  cases exec_shape i with
  | read o base g stores data regs same keeps lo hi run =>
    rw [run] at h
    exact (readClass_keepsLatch o base regs s).outcome_latches hs h
  | store m base v stores data lo hi run =>
    rw [run] at h
    exact (storeClass_keepsLatch m base _ s).outcome_latches hs h
  | rmw m base f g stores data regs same keeps lo hi run =>
    rw [run] at h
    exact (rmwClass_keepsLatch m base f regs s).outcome_latches hs h
  | regs cost g stores data regs same keeps lo hi run =>
    rw [run] at h
    cases h
  | push base bytes g stores data few regs same keeps lo hi run =>
    rw [run] at h
    cases h
  | jump p stores data run =>
    rw [run] at h
    exact (jumpIndirect_keepsLatch p 5 s).outcome_latches hs h
  | stop op mem run =>
    rw [run, stub_of_none op hs] at h
    cases h
    rfl

/-- The fetch and the instruction of an iteration start with the latch clear, so what either raises is latched. -/
theorem step_latches {s t : State} {c : Fatal} (h : step s = .fault (.fatal c t)) : t.fatal = some c := by
  obtain ⟨hf, hcases⟩ := step_fatal_cases h
  have hclear : (serviceInterrupts (hostTurn s)).fatal = none := by rw [serviceInterrupts_fatal, hostTurn_fatal, hf]
  have hfetched := fetchInstr_keepsLatch (serviceInterrupts (hostTurn s))
  obtain ⟨u, hfetch, rfl⟩ | ⟨i, u, hfetch, hexec⟩ := hcases
  · rw [hfetch] at hfetched
    exact latch_fatal_of_none c (Eq.trans hfetched hclear)
  · rw [hfetch] at hfetched
    exact exec_latches (Eq.trans hfetched hclear) hexec

/-- Settles O7: `step_latches`, and a latched machine halts. -/
theorem fatalStopIsFinal : Obligations.FatalStopIsFinal := by
  refine ⟨fun s t c h => ?_, fun s c hf => step_of_latched hf⟩
  have hlatched := step_latches h
  exact ⟨hlatched, step_of_latched hlatched⟩

end Sys2Proof.Machine
end

section
/-! Resets, the IRQ line, returns from a handler, and what can stop a launched machine (60_exceptions.md). -/

namespace Sys2Proof.Machine

open Sys2Proof.Forms

-- The stops of a launched machine

/-- Where this operation stops, it does so for one of the two reasons that a launched machine has (R441, R442). -/
def StopsAsLaunched {α : Type} (r : Result α) : Prop := ∀ c t, r = .stop c t → c.afterLaunch = true

/-- This outcome is a next state, or a stop for one of the two reasons that a launched machine has. -/
def EndsAsLaunched (o : Host.Outcome State Fault Refusal) : Prop :=
  (∃ t, o = .next t) ∨ ∃ c t, o = .fault (.fatal c t) ∧ c.afterLaunch = true

theorem StopsAsLaunched.ok {α : Type} (w : α) (t : State) : StopsAsLaunched (.ok w t) := by
  intro c u h
  cases h

theorem StopsAsLaunched.stop {α : Type} {f : Fatal} (hf : f.afterLaunch = true) (t : State) :
    StopsAsLaunched (.stop f t : Result α) := by
  intro c u h
  cases h
  exact hf

theorem StopsAsLaunched.andThen {α β : Type} {r : Result α} {k : α → State → Result β} (hr : StopsAsLaunched r)
    (hk : ∀ w t, r = .ok w t → StopsAsLaunched (k w t)) : StopsAsLaunched (r.andThen k) := by
  intro c t h
  obtain hstop | ⟨w, u, hok, hstop⟩ := andThen_eq_stop.1 h
  · exact hr c t hstop
  · exact hk w u hok c t hstop

theorem StopsAsLaunched.endsAsLaunched {r : Result Unit} (h : StopsAsLaunched r) : EndsAsLaunched r.outcome := by
  cases r with
  | ok w t => exact .inl ⟨t, outcome_ok w t⟩
  | stop c t => exact .inr ⟨c, latch c t, outcome_stop c t, h c t rfl⟩

theorem afterLaunch_vramRange {v : BitVec 15} (h : 0x4000 ≤ v.toNat) : (Fatal.vramRange v).afterLaunch = true :=
  decide_eq_true h

/-- With both hooks installed only the data port out of its window raises a condition (R50, R287). -/
theorem accessFault_afterLaunch {a : Word} {s : State} (hp : s.ppuHook = true) (hi : s.ioHook = true)
    (h : readOk s a = false) : (accessFault s a).afterLaunch = true := by
  cases ha : region a with
  | ppu r =>
    have hport : r = .vramData ∧ 0x4000 ≤ s.ppu.vaddr.toNat := by
      simpa [readOk, portOk, vaddrLegal, ha, hp] using h
    obtain ⟨-, hrange⟩ := hport
    simp only [accessFault, ha, hp, if_true, afterLaunch_vramRange hrange]
  | _ => simp [readOk, ha, hi] at h

theorem busRead_stopsAsLaunched_of_hooks (a : Word) {s : State} (hp : s.ppuHook = true) (hi : s.ioHook = true) :
    StopsAsLaunched (busRead a s) := by
  cases hr : readOk s a with
  | true =>
    obtain ⟨w, t, ht⟩ := busRead_ok hr
    rw [ht]
    exact .ok w t
  | false =>
    rw [busRead_stop hr]
    exact .stop (accessFault_afterLaunch hp hi hr) s

theorem busRead_stopsAsLaunched (a : Word) {s : State} (hs : s.wf = true) : StopsAsLaunched (busRead a s) := by
  obtain ⟨-, hp, hi, -⟩ := wf_iff.1 hs
  exact busRead_stopsAsLaunched_of_hooks a hp hi

theorem ppuRegWrite_stopsAsLaunched (r : PpuReg) (w : Byte) (s : State) : StopsAsLaunched (ppuRegWrite r w s) := by
  by_cases hok : r = .vramData → s.ppu.vaddr.toNat < 0x4000
  · rw [ppuRegWrite_eq_ok w hok]
    exact .ok _ _
  · obtain ⟨rfl, hv⟩ := Classical.not_imp.1 hok
    have hrange := Nat.le_of_not_lt hv
    rw [(ppuReg_vramRange hrange).2 w]
    exact .stop (afterLaunch_vramRange hrange) _

/-- A write stops at the data port, or in a bulk copy where one of its reads does (R48, R50, R287). -/
theorem busWrite_stopsAsLaunched (a : Word) (w : Byte) {s : State} (hs : s.wf = true) :
    StopsAsLaunched (busWrite a w s) := by
  obtain ⟨-, hp, hi, -⟩ := wf_iff.1 hs
  intro c t h
  obtain ⟨-, hr⟩ | ⟨-, -, hr⟩ | ⟨rfl, -⟩ | ⟨-, -, -, hr⟩ | ⟨-, hr⟩ := region_cases a
  case inr.inl =>
    simp only [busWrite, hr, hp, if_true] at h
    exact ppuRegWrite_stopsAsLaunched _ w s c t h
  case inr.inr.inl =>
    obtain ⟨n, -, -, hstop, -⟩ := busWrite_bulkCopy_eq_stop h
    have he := copyStates_effect w s n
    exact busRead_stopsAsLaunched_of_hooks _ (by rw [he]; exact hp) (by rw [he]; exact hi) c t hstop
  all_goals simp only [busWrite, hr, hi, if_true, reduceCtorEq] at h

theorem fetchByte_stopsAsLaunched {s : State} (hs : s.wf = true) : StopsAsLaunched (fetchByte s) :=
  (busRead_stopsAsLaunched s.pc hs).andThen fun _ _ _ => .ok _ _

/-- A fetch stops where one of its reads does: every opcode has a row (R81). -/
theorem fetchInstr_stopsAsLaunched {s : State} (hs : s.wf = true) : StopsAsLaunched (fetchInstr s) := by
  refine (fetchByte_stopsAsLaunched hs).andThen fun op t ht => ?_
  have htwf := fetchByte_wf ht hs
  split
  · exact .ok _ _
  · exact (fetchByte_stopsAsLaunched htwf).andThen fun _ _ _ => .ok _ _
  · exact (fetchByte_stopsAsLaunched htwf).andThen fun _ _ hu =>
      (fetchByte_stopsAsLaunched (fetchByte_wf hu htwf)).andThen fun _ _ _ => .ok _ _
  next hnone =>
    have hrow := patternOf_isSome op
    rw [hnone] at hrow
    cases hrow

theorem loadOperand_stopsAsLaunched (o : Operand) {s : State} (hs : s.wf = true) :
    StopsAsLaunched (loadOperand o s) := by
  cases o with
  | acc => exact .ok _ _
  | imm v => exact .ok _ _
  | mem m => exact busRead_stopsAsLaunched _ hs

/-- An instruction from a well-formed state completes, or stops where one of its accesses does, or is a stub. -/
theorem exec_endsAsLaunched (i : Instr) {s : State} (hs : s.wf = true) : EndsAsLaunched (exec i s) := by
  cases exec_shape i with
  | read o base g stores data regs same keeps lo hi run =>
    rw [run]
    exact ((loadOperand_stopsAsLaunched o hs).andThen fun _ _ _ => .ok _ _).endsAsLaunched
  | store m base v stores data lo hi run =>
    rw [run]
    exact ((busWrite_stopsAsLaunched _ _ hs).andThen fun _ _ _ => .ok _ _).endsAsLaunched
  | rmw m base f g stores data regs same keeps lo hi run =>
    rw [run]
    exact ((busRead_stopsAsLaunched _ hs).andThen fun _ _ hu =>
      (busWrite_stopsAsLaunched _ _ (busRead_wf hu hs)).andThen fun _ _ _ => .ok _ _).endsAsLaunched
  | regs cost g stores data regs same keeps lo hi run => exact .inl ⟨_, run s⟩
  | push base bytes g stores data few regs same keeps lo hi run => exact .inl ⟨_, run s⟩
  | jump p stores data run =>
    rw [run]
    exact ((busRead_stopsAsLaunched p hs).andThen fun _ _ hu =>
      (busRead_stopsAsLaunched _ (busRead_wf hu hs)).andThen fun _ _ _ => .ok _ _).endsAsLaunched
  | stop op mem run =>
    obtain ⟨hfatal, -⟩ := wf_iff.1 hs
    exact .inr ⟨_, _, (run s).trans (stub_of_none op hfatal), mem⟩

/-- Settles O11: the latch is clear and the configuration accepted, so the iteration ends as its fetch or its
instruction does. -/
theorem launchedMachineStopsOnlyForTwoReasons : Obligations.LaunchedMachineStopsOnlyForTwoReasons := by
  intro s hs
  obtain ⟨hf, -, -, -, hc, -⟩ := wf_iff.1 hs
  have hready := serviceInterrupts_wf (hostTurn_wf hs)
  cases hfetch : fetchInstr (serviceInterrupts (hostTurn s)) with
  | stop c t => exact .inr ⟨c, _, step_of_fetch_stop hf hc hfetch, fetchInstr_stopsAsLaunched hready c t hfetch⟩
  | ok i u =>
    obtain ⟨t, hexec⟩ | ⟨c, t, hexec, hafter⟩ := exec_endsAsLaunched i (fetchInstr_wf hfetch hready)
    · exact .inl ⟨_, step_eq_next.2 ⟨hf, hc, i, u, t, hfetch, hexec, rfl⟩⟩
    · exact .inr ⟨c, t, step_of_exec_fault hf hc hfetch hexec, hafter⟩

-- The return from a handler

/-- After pushes, the stack holds at its top, counted from the new S, the byte pushed last, then those before it
(R11). -/
theorem pushed_stored_above {ws : List Byte} {s t : State} {j k : Nat} {w : Byte} (h : Pushed ws s t)
    (hlen : j + k = ws.length) (hw : ws[j]? = some w) :
    storedByte t (stackAddr (t.sp + BitVec.ofNat 8 k)) = some w := by
  have hsp : t.sp + BitVec.ofNat 8 k = s.sp - BitVec.ofNat 8 j := by
    rw [h.sp, ← hlen, BitVec.ofNat_add, sub_add_eq_sub_sub, sub_add_cancel]
  rw [hsp]
  exact h.stored j w hw

/-- Settles O20: the three bytes that `RTI` pulls are the status, low and high byte that the entry pushed. -/
theorem rtiAfterEntryResumes : Obligations.RtiAfterEntryResumes := by
  rintro s t ret vec brk - ⟨⟨w, hbits, hpushed⟩, -, -, -, -⟩
  obtain ⟨p, lo, hi, hp, hlo, hhi, hrun⟩ := rtiRestoresFlagsAndPc.2 t
  have hstatus := pushed_stored_above hpushed (j := 2) (k := 1) rfl rfl
  have hlow := pushed_stored_above hpushed (j := 1) (k := 2) rfl rfl
  have hhigh := pushed_stored_above hpushed (j := 0) (k := 3) rfl rfl
  obtain rfl : w = p := Option.some.inj (hstatus.symm.trans hp)
  obtain rfl : lowByte ret = lo := Option.some.inj (hlow.symm.trans hlo)
  obtain rfl : highByte ret = hi := Option.some.inj (hhigh.symm.trans hhi)
  have hsp : t.sp + 3 = s.sp := by
    rw [hpushed.sp]
    exact sub_add_cancel s.sp 3
  exact ⟨_, hrun, joinBytes_highByte_lowByte ret, hsp, hbits.n, hbits.v, hbits.d, hbits.i, hbits.z, hbits.c⟩

-- CPU reset

/-- A vector of cartridge space is the word of the two bytes stored there, low byte first (R51, R453). -/
theorem vectorAt_of_stored {a : Word} {s : State} {lo hi : Byte} (h : 0x4200 ≤ a.toNat) (h' : a.toNat < 0xFFFF)
    (hlo : storedByte s a = some lo) (hhi : storedByte s (a + 1) = some hi) :
    vectorAt a.toNat s = joinBytes hi lo := by
  have hnext : (a + 1).toNat = a.toNat + 1 := by bv_omega
  rw [storedByte_cart s h] at hlo
  rw [storedByte_cart s (by omega), hnext] at hhi
  rw [vectorAt, Option.some.inj hlo, Option.some.inj hhi]

theorem resetCpu_pc_of_stored {s : State} {lo hi : Byte} (hlo : storedByte s 0xFFFC = some lo)
    (hhi : storedByte s 0xFFFD = some hi) : (resetCpu s).pc = joinBytes hi lo :=
  vectorAt_of_stored (a := 0xFFFC) (by decide) (by decide) hlo hhi

theorem hostTurn_cons {s : State} {h : HostAct} {hs : List HostAct} (hq : s.pending = h :: hs) :
    hostTurn s = applyHostAct h { s with pending := hs } := by
  simp only [hostTurn, hq]

/-- Settles O13: `resetCpu` has the listed values but for its `pc`, which is the reset vector. -/
theorem resetTouchesTheCpuAlone : Obligations.ResetTouchesTheCpuAlone := by
  refine ⟨fun s lo hi hlo hhi => ?_, fun s hs hq => hostTurn_cons hq⟩
  have hpc : hi ++ lo = (resetCpu s).pc := (resetCpu_pc_of_stored hlo hhi).symm
  rw [hpc]
  rfl

-- The IRQ line

theorem irqLine_iff {s : State} : irqLine s = true ↔ s.cfg.diskPresent = true ∧
    (s.dsk.timerFlag = true ∨ (s.dsk.xferFlag = true ∧ s.dsk.ctrl.getLsbD 7 = true)) := by
  simp only [irqLine, Bool.and_eq_true, Bool.or_eq_true]

theorem serviceInterrupts_of_none {s : State} (hnmi : s.nmiReq = false) (hirq : (irqLine s && !s.i) = false) :
    serviceInterrupts s = s := by
  simp only [serviceInterrupts, hnmi, hirq, Bool.false_eq_true, if_false]

/-- Settles O17: a low line and a set I flag each clear the condition of R448. -/
theorem irqLineAndMask : Obligations.IrqLineAndMask := by
  refine ⟨fun s hnmi hoff => serviceInterrupts_of_none hnmi ?_, fun s => irqLine_iff⟩
  obtain hline | hmask := hoff
  · rw [hline, Bool.false_and]
  · rw [hmask, Bool.not_true, Bool.and_false]

end Sys2Proof.Machine
end
